-- ==== Sys2Proof/Word.lean ====
section
/-! DEFINITION. The words, addresses and index types of the BL7208 (00_scope.md, Conventions).
A word is one 64-bit beat of the bus; a byte address has 32 bits. -/

namespace Sys2Proof

/-- One bus beat, a slot word, a control page word: 64 bits, as the agent sees it. -/
abbrev Word := BitVec 64

/-- A byte address of frame memory. -/
abbrev Addr := BitVec 32

/-- A path number, 0 to 7. -/
abbrev Path := Fin 8

/-- A route number, 0 to 3. -/
abbrev Route := Fin 4

/-- The 4-bit tag that names an agent on the Agent Port. -/
abbrev Tag := Fin 16

/-- A report ring: 0 carries events, 1 carries statistics. -/
abbrev RingId := Fin 2

/-- The paths 0 to 7 in turn. -/
def allPaths : List Path := [0, 1, 2, 3, 4, 5, 6, 7]

/-- The routes 0 to 3 in turn. -/
def allRoutes : List Route := [0, 1, 2, 3]

end Sys2Proof
end

