-- ==== Sys2Proof/Syntax.lean ====
section
/-! DEFINITION. The commands of the BL7208: one constructor for each row of spec/opcode_table.json, in the table's
order. The part is a block on a bus, so a command is an input or an event: a request an agent presents, an answer of
the frame memory controller, the data an argument read brings back, a sample of the two input pins, or an internal
event taken now. Each row's operands are the data that come from outside with it. -/

namespace Sys2Proof

/-- One beat of write data with its byte enables (bit k of `en` enables byte k). -/
structure Beat where
  data : Word
  en : BitVec 8
  deriving DecidableEq, Repr

/-- A write request at the Agent Port (01_requests_agents_and_windows.md, The Agent Port). -/
structure WriteReq where
  tag : Tag
  addr : Addr
  beats : List Beat
  deriving DecidableEq, Repr

/-- A read request at the Agent Port: the byte enables of its beats, one entry for each beat. -/
structure ReadReq where
  tag : Tag
  addr : Addr
  enables : List (BitVec 8)
  deriving DecidableEq, Repr

/-- Who a write at the Memory Port belongs to, as R17 needs it: the agent whose request gave rise to it, or a write the
Command Unit or the Report Writer made of its own accord. -/
inductive WriteOwner where
  | agent (tag : Tag)
  | commandUnit
  | ringRecord
  | statusWord
  deriving DecidableEq, Repr

/-- The data beats of one memory answer, beat 0 first; a read of n beats uses the first n. -/
abbrev ReadWords := Vector Word 8

/-- The argument words 1 to 7 of a command, as memory returned them (R162). -/
abbrev ArgWords := Vector Word 7

/-- One command: a row of the opcode table with its operands. -/
inductive Instr where
  /-- POWER_ON_RESET (R18): the straps CTLBASE[7:0] and MGMT_TAG[3:0] as sampled. -/
  | powerOnReset (ctlBase : BitVec 8) (mgmtTag : Tag)
  /-- PAYLOAD_WRITE (R25): a write request. -/
  | payloadWrite (w : WriteReq)
  /-- COMMIT (R27): a write request. -/
  | commit (w : WriteReq)
  /-- ROLE_DISCARD (R13): a write request. -/
  | roleDiscard (w : WriteReq)
  /-- SLOT_READ (R13): a read request. -/
  | slotRead (r : ReadReq)
  /-- DEPARTURE_READ (R67): a read request. -/
  | departureRead (r : ReadReq)
  /-- DEPARTURE_READ_DATA (R69): the memory's answer to a departure read. -/
  | departureReadData (words : ReadWords) (error : Bool)
  /-- ARRIVAL_HEADER_WRITE (R74): a write request. -/
  | arrivalHeaderWrite (w : WriteReq)
  /-- RECEIVE_COMMIT (R75): a write request. -/
  | receiveCommit (w : WriteReq)
  /-- STATUS_WORD (R103): a write request. -/
  | statusWord (w : WriteReq)
  /-- TRANSLATED_WRITE (R12): a write request. -/
  | translatedWrite (w : WriteReq)
  /-- TRANSLATED_READ (R3): a read request. -/
  | translatedRead (r : ReadReq)
  /-- CONTROL_PAGE_WRITE (R10): a write request. -/
  | controlPageWrite (w : WriteReq)
  /-- OFFER_ADMIT (R36): the arbiter's turn. -/
  | offerAdmit
  /-- BUSY_REFUSAL (R163): a command write, taken at its admission. -/
  | busyRefusal (w : WriteReq)
  /-- WRITE_DRAIN (R37): the head write's turn at the Memory Port. -/
  | writeDrain
  /-- READ_ISSUE (R39): the Memory Port's turn with a read ready. -/
  | readIssue
  /-- READ_RETURN (R3): the memory's answer to the oldest issued read of an agent. -/
  | readReturn (words : ReadWords) (error : Bool)
  /-- MEMORY_WRITE_ERROR (R17): the memory's error answer to a drained write: its address and its owner. -/
  | memoryWriteError (addr : Addr) (owner : WriteOwner)
  /-- CAPTURE_EVENT (R45): the filtered rising edge of REFP. -/
  | captureEvent
  /-- CAPTURE_EVALUATION (R48). -/
  | captureEvaluation
  /-- WATCH_EXPIRY (R52). -/
  | watchExpiry
  /-- BOUNDARY (R58). -/
  | boundary
  /-- UPDATE_EVENT (R59). -/
  | updateEvent
  /-- STATS_EVENT (R60). -/
  | statsEvent
  /-- PROBATION_COUNTDOWN_END (R110) of one path. -/
  | probationCountdownEnd (p : Path)
  /-- FAR_END_LAPSE (R111) of one path. -/
  | farEndLapse (p : Path)
  /-- STATUS_TIMER_EXPIRY (R108) of one path. -/
  | statusTimerExpiry (p : Path)
  /-- CUT_EDGE (R154): the filtered assertion of CUT_N. -/
  | cutEdge
  /-- RECORD_PLACEMENT (R177): the Report Writer's turn. -/
  | recordPlacement
  /-- CONSUMER_INDEX_WRITE (R179): a write request, snooped at its admission. -/
  | consumerIndexWrite (w : WriteReq)
  /-- ACKNOWLEDGE (R181): a write request, snooped at its admission. -/
  | acknowledge (w : WriteReq)
  /-- ARGUMENT_READ_ERROR (R162): the argument read returns a memory error. -/
  | argumentReadError
  /-- BAD_COMMAND (R164): argument data returns for an opcode that names no command. -/
  | badCommand (args : ArgWords)
  /-- SET_AGENT (R6): its argument data returns. -/
  | setAgent (args : ArgWords)
  /-- SET_TIMING (R62). -/
  | setTiming (args : ArgWords)
  /-- SET_TIME (R56). -/
  | setTime (args : ArgWords)
  /-- SET_DISCIPLINE (R57). -/
  | setDiscipline (args : ArgWords)
  /-- SET_LAYOUT (R20). -/
  | setLayout (args : ArgWords)
  /-- SET_WINDOW (R11). -/
  | setWindow (args : ArgWords)
  /-- SET_PATH (R101). -/
  | setPath (args : ArgWords)
  /-- SET_HEALTH (R102). -/
  | setHealth (args : ArgWords)
  /-- SET_ESTIMATOR (R97). -/
  | setEstimator (args : ArgWords)
  /-- SET_ROUTE (R121). -/
  | setRoute (args : ArgWords)
  /-- SET_RING (R175). -/
  | setRing (args : ArgWords)
  /-- SET_RING_GROUP (R175). -/
  | setRingGroup (args : ArgWords)
  /-- PATH_ADMIN ENABLE (R113). -/
  | pathAdminEnable (args : ArgWords)
  /-- PATH_ADMIN DISABLE (R114). -/
  | pathAdminDisable (args : ArgWords)
  /-- PATH_ADMIN FORCE_DOWN (R115). -/
  | pathAdminForceDown (args : ArgWords)
  /-- PATH_ADMIN RELEASE_CUT (R158). -/
  | pathAdminReleaseCut (args : ArgWords)
  /-- APPLY (R171). -/
  | apply (args : ArgWords)
  /-- RAISE_LOCK (R165). -/
  | raiseLock (args : ArgWords)
  /-- GENERATE UPDATE (R62). -/
  | generateUpdate (args : ArgWords)
  /-- GENERATE REF_PULSE (R45). -/
  | generateRefPulse (args : ArgWords)
  /-- GENERATE CUT (R154). -/
  | generateCut (args : ArgWords)
  /-- SNAPSHOT (R172). -/
  | snapshot (args : ArgWords)
  /-- RESTART (R173). -/
  | restart (args : ArgWords)
  /-- RESTART_RESET (R173): the reset phase of a RESTART. -/
  | restartReset
  /-- TIME_INCREMENT (R42): one period of the core clock, with the levels of REFP and CUT_N sampled at it
  (true: asserted). -/
  | timeIncrement (refp cutN : Bool)
  /-- REFP_FALLING_EDGE (R44): the filtered falling edge of REFP. -/
  | refpFallingEdge
  /-- CUT_LINE_DEASSERTED (R153): the filtered deassertion of CUT_N. -/
  | cutLineDeasserted
  deriving DecidableEq, Repr

end Sys2Proof
end

