-- ==== Sys2Proof/Decode.lean ====
section
/-! DEFINITION. The command a word of the opcode table spells. The table gives no row any bits (every row's "fields" is
empty and no row has "fixed"), so no word spells a command. -/

namespace Sys2Proof

/-- The command that the bits of a table word spell: none, since no row of the table gives bits. -/
def decodeTableWord (_nbits _w : Nat) : Option Instr := none

end Sys2Proof
end

