-- ==== Sys2Proof/Config.lean ====
section
/-! DEFINITION. What the manual leaves open, as free values with no body, and the fixed sizes of the part.
No proof can see the value of an opaque constant: a claim about a step that reads one holds whatever it is. -/

namespace Sys2Proof

/-- One piece of the work of an update event whose place among the others the manual leaves open
(R99, R131, R159). -/
inductive UpdateTask where
  /-- the path statistics reports of R99, made at a stats event only -/
  | pathStats
  /-- the Route Selector's update work (R131), with the route statistics of R32 ahead of it at a stats event -/
  | routes
  /-- the automatic release of the Cutoff Control (R159) -/
  | release
  /-- the Path Monitor's update work on one path (R93, R109 to R111) -/
  | monitor (p : Path)
  deriving DecidableEq, Repr

/-- FREE VALUE. The order in which the n-th free choice takes the work of an update event (R131, R159: "may be taken
in either order"). Used through `updateSchedule`, which keeps the limits the manual sets. -/
opaque Config.updateOrder : Nat → List UpdateTask

/-- FREE VALUE. Whether the n-th free choice delivers a receive commit to the Path Monitor before the Arrival Merger
(R77, R78: the two deliveries are independent, and the order of the reports they give is not stated). -/
opaque Config.monitorFirst : Nat → Bool

/-- FREE VALUE. The mean dwell field of PATH_TX_STATS, by the dwell sum and the dwell count, where the mean does not fit its
32 bits (R99 states no result there, log 35). -/
opaque Config.meanDwell : Nat → Nat → BitVec 32

/-- The Write Queue holds at most 64 entries (R37). -/
def Config.queueCapacity : Nat := 64

/-- The write list holds up to eight ring records (R175). -/
def Config.writeListRecords : Nat := 8

/-- Reads that may go ahead of a waiting head write (R39). -/
def Config.readsAhead : Nat := 8

/-- An open-slot list and a pending-arrival list hold at most four records (section 2.2, R74). -/
def Config.slotRecords : Nat := 4

/-- The samples that complete a change of a filtered level (R44, R153). -/
def Config.filterSamples : Nat := 3

end Sys2Proof
end

