-- ==== Sys2Proof/Machine/Records.lean ====
section
/-! DEFINITION. The records that State is made of, block by block, with the manual's names. Counts are natural numbers
with the bounds the rules give them; sequences, epochs, addresses and words are bit vectors. -/

namespace Sys2Proof.Machine

/-- TIME: seconds, nanoseconds below 10^9, fraction below 2^32 in units of 2^-32 ns (section 3.1). -/
structure Time where
  sec : BitVec 48
  ns : Nat
  frac : Nat
  deriving DecidableEq, Repr

/-- Stamp quality (R55). -/
inductive Quality where
  | unset | free | holdover | locked
  deriving DecidableEq, Repr

/-- One reading of the Time Base: TIME, epoch and quality taken together (R54, R65). -/
structure Reading where
  time : Time
  epoch : BitVec 2
  quality : Quality
  deriving DecidableEq, Repr

/-! ### Window Decoder -/

/-- The roles of the agent table (section "Agents and roles"). -/
inductive Role where
  | none | frameEngine | modem | management
  deriving DecidableEq, Repr

/-- One entry of the agent table (R5, R6). -/
structure AgentEntry where
  role : Role
  path : Path
  deriving DecidableEq, Repr

/-- Window kinds (section "The window table"). -/
inductive WindowKind where
  | routeTx | pathTx | pathRx | status | plain
  deriving DecidableEq, Repr

/-- One window entry; its size is 64 KiB × 2^`sizeExp`. -/
structure Window where
  enabled : Bool
  kind : WindowKind
  base : Addr
  sizeExp : Fin 9
  index : BitVec 8
  transBase : Addr
  swap : Bool
  deriving DecidableEq, Repr

/-- A live entry, its preload copy and its pending flag (R8, R11). -/
structure WindowEntry where
  live : Window
  preload : Window
  pending : Bool
  deriving DecidableEq, Repr

/-! ### Steering Unit and Write Queue -/

/-- The layout: sections of 64 KiB × 2^`sectionExp`, slots of 256 × 2^`slotExp` bytes (section 2.1). -/
structure Layout where
  sectionExp : Fin 7
  slotExp : Fin 4
  deriving DecidableEq, Repr

/-- Why a slot has a second copy (section 2.2). -/
inductive ExtraKind where
  | mirror | probe
  deriving DecidableEq, Repr

/-- The paths of a slot: a primary and an optional extra with its kind. -/
structure Binding where
  primary : Path
  extra : Option (ExtraKind × Path)
  deriving DecidableEq, Repr

/-- A record of an open-slot list (section 2.2). -/
structure OpenSlot where
  slot : Nat
  binding : Binding
  opened : Time
  deriving DecidableEq, Repr

/-- What the Steering Unit keeps for one route (R33). -/
structure SteerRoute where
  openSlots : List OpenSlot
  seq : BitVec 24
  commits : Nat
  darkDiscards : Nat
  abandoned : Nat
  mirrored : Nat
  roleDiscards : Nat
  darkReported : Bool
  deriving DecidableEq, Repr

/-- One write on its way to the Memory Port, as memory will hold it. -/
structure MemWrite where
  addr : Addr
  beats : List Beat
  owner : WriteOwner
  deriving DecidableEq, Repr

/-- Which requester an offer comes from, and what its admission completes (R35, R36). `acks`: the admission
acknowledges the request (not so for the first half of a split write, R4). `managed`: a control page write by a
MANAGEMENT agent, watched at its admission (R10, R162, R179, R181). -/
inductive OfferSource where
  | agent (tag : Tag) (acks managed : Bool)
  | refusal
  | snapshotWord
  | result
  | report
  deriving DecidableEq, Repr

/-- An offer at the Write Queue's arbiter: its writes are admitted together, in order (R36). -/
structure Offer where
  source : OfferSource
  writes : List MemWrite
  deriving DecidableEq, Repr

/-- A request presented at the Agent Port and not yet accepted, one half of a split request each (R2, R4). -/
inductive PortRequest where
  | write (w : WriteReq) (acks : Bool)
  | read (r : ReadReq) (last : Bool)
  deriving DecidableEq, Repr

/-- Whose read it is: an accepted read of an agent, or the argument read of the Command Unit (R162). -/
inductive ReadRef where
  | agent (id : Nat)
  | argument
  deriving DecidableEq, Repr

/-- A read on its way to the Memory Port. -/
structure MemRead where
  ref : ReadRef
  addr : Addr
  enables : List (BitVec 8)
  deriving DecidableEq, Repr

/-- Cut behaviour (section 9.4). -/
inductive CutBehaviour where
  | blank | pass
  deriving DecidableEq, Repr

/-- Path health states, coded as in R80. -/
inductive Health where
  | disabled | probation | up | fading | down | cut
  deriving DecidableEq, Repr

/-- What departure processing fixes at a read's acceptance (R67). `firstWord` is the slot word of the read's first
beat. -/
structure Departure where
  path : Path
  reading : Reading
  health : Health
  behaviour : CutBehaviour
  maxDwell : Nat
  txLead : Nat
  reportBack : Word
  firstWord : Nat
  deriving DecidableEq, Repr

/-- An accepted read that has not yet returned, in its place of the return order (R3). -/
structure ReadRec where
  id : Nat
  tag : Tag
  count : Nat
  swap : Bool
  last : Bool
  departure : Option Departure
  answer : Option (ReadWords × Bool)
  deriving DecidableEq, Repr

/-! ### Time Base -/

/-- Reference states (section 3.3). -/
inductive RefState where
  | free | acquiring | locked | holdover
  deriving DecidableEq, Repr

/-- Where a capture came from (R45). -/
inductive CaptureSource where
  | refp | generated
  deriving DecidableEq, Repr

/-- A capture (R45). -/
structure Capture where
  sec : BitVec 48
  ns : Nat
  run : Nat
  source : CaptureSource
  used : Bool
  deriving DecidableEq, Repr

/-- The discipline parameters (R46). -/
structure Discipline where
  stepThreshold : Nat
  lockWindow : Nat
  lockCount : Nat
  pulseWindow : Nat
  gp : Nat
  gf : Nat
  rateLimit : Nat
  holdoverLimit : Nat
  deriving DecidableEq, Repr

/-- The spacing P of boundaries (section 3.5). -/
inductive Spacing where
  | ms1 | ms10 | ms100 | ms1000
  deriving DecidableEq, Repr

/-- A three-sample filter: the filtered level (true: asserted) and how many samples in a row showed the other level
(R44, R153). -/
structure Filter where
  level : Bool
  run : Nat
  deriving DecidableEq, Repr

/-- The Time Base (R41). -/
structure TimeBase where
  time : Time
  secondsSet : Bool
  epoch : BitVec 2
  ref : RefState
  rate : Int
  runNs : Nat
  runFrac : Nat
  current : Option Capture
  previous : Option Capture
  overcapture : Bool
  prevError : Option Int
  lockRun : Nat
  strayRun : Nat
  lastAccepted : Option Nat
  watchMark : Nat
  refp : Filter
  p : Spacing
  r : Nat
  s : Nat
  repetition : Nat
  stats : Nat
  disc : Discipline
  boundaryDue : Bool
  deriving DecidableEq, Repr

/-! ### Stamp Unit -/

/-- A record of a pending-arrival list (R74). -/
structure PendingArrival where
  slot : Nat
  word2 : Option Word
  word3 : Option Word
  deriving DecidableEq, Repr

/-! ### Path Monitor -/

/-- Path class (section 6.1). -/
inductive PathClass where
  | mw | mmw | fibre
  deriving DecidableEq, Repr

/-- The ten settings of SET_PATH (section 6.1). -/
structure PathSettings where
  cls : PathClass
  standby : Bool
  txBase : Addr
  rxBase : Addr
  txLead : Nat
  maxDwell : Nat
  cutEnable : Bool
  behaviour : CutBehaviour
  autoRelease : Bool
  asymmetry : Int
  deriving DecidableEq, Repr

/-- The settings of SET_HEALTH (R100). -/
structure HealthSettings where
  downLevel : Int
  fadeLevel : Int
  recoverLevel : Int
  nFade : Nat
  nDown : Nat
  nRecover : Nat
  minStep : Nat
  timeout : Nat
  lossFade : Nat
  lossDown : Nat
  probation : Nat
  minSamples : Nat
  deriving DecidableEq, Repr

/-- The TX view (R94). -/
structure TxView where
  delay : Nat
  jitter : Nat
  age : Nat
  deriving DecidableEq, Repr

/-- The period counts of a path (R98). -/
structure PathCounts where
  samples : Nat
  discarded : Nat
  minimum : Option Nat
  maximum : Option Nat
  sum : Nat
  losses : Nat
  commits : Nat
  probes : Nat
  departures : Nat
  expired : Nat
  blanked : Nat
  dwellSum : Nat
  dwellCount : Nat
  dwellMax : Nat
  reportBacks : Nat
  wins : Nat
  lateCopies : Nat
  marginSum : Int
  deriving DecidableEq, Repr

/-- A path record: settings, health state (R100) and measurement state (R84). -/
structure PathRecord where
  state : Health
  set : PathSettings
  hs : HealthSettings
  belowFade : Nat
  belowDown : Nat
  aboveRecover : Nat
  lastRsl : Int
  lastLock : Bool
  lastStep : Nat
  timer : Option Nat
  countdown : Nat
  farEnd : Option Nat
  lastCause : Nat
  farEpoch : Option (BitVec 2)
  nearEpoch : Option (BitVec 2)
  est : Option Nat
  jit : Nat
  rxCount : Nat
  rxAge : Nat
  expected : Option (BitVec 16)
  outOfOrder : Nat
  updLosses : Nat
  lastLosses : Nat
  tx : Option TxView
  period : PathCounts
  deriving DecidableEq, Repr

/-- The device-wide estimator parameters (R97). -/
structure Estimator where
  k : Nat
  kj : Nat
  w : Nat
  maxPlausible : Nat
  reportStale : Nat
  switchMargin : Nat
  acceptHoldover : Bool
  deriving DecidableEq, Repr

/-! ### Route Selector -/

/-- Route modes (R123). -/
inductive Mode where
  | single | mirror | fallback | dark
  deriving DecidableEq, Repr

/-- A live candidate: a path and its copy of the path's standby flag (R120). -/
structure Candidate where
  path : Path
  standby : Bool
  deriving DecidableEq, Repr

/-- What a selection decides (R125). -/
structure Choice where
  mode : Mode
  active : Option Path
  secondary : Option Path
  deriving DecidableEq, Repr

/-- A route record (R119). -/
structure RouteRecord where
  live : List Candidate
  preload : List Path
  preloadInterval : Nat
  pending : Bool
  chosen : Choice
  interval : Nat
  countdown : Nat
  cursor : Nat
  modeChanges : Nat
  deriving DecidableEq, Repr

/-! ### Arrival Merger -/

/-- A record of the arrival table (R139). -/
structure Arrival where
  seen : Bool
  sec : BitVec 48
  ns : Nat
  path : Path
  late : Bool
  deriving DecidableEq, Repr

/-- A merger record (R139): entry i of `table` is the record for sequence `newest` − 63 + i. -/
structure MergeRecord where
  tracking : Bool
  newest : BitVec 24
  table : List Arrival
  staleRun : Nat
  resyncCount : Nat
  stale : Nat
  resyncs : Nat
  repeats : Nat
  deriving DecidableEq, Repr

/-! ### Command Unit -/

/-- A command taken: its opcode, its label and the bus tag of the agent whose write it was (R162, R173). -/
structure Command where
  opcode : BitVec 8
  label : BitVec 8
  agent : Tag
  deriving DecidableEq, Repr

/-- Result statuses (R82). -/
inductive Status where
  | done | doneClamped | badCommand | badArgument | locked | busy | lineActive
  deriving DecidableEq, Repr

/-- What a result record answers: status, detail and the value word (R164). -/
structure Answer where
  status : Status
  detail : Nat
  value : Word
  deriving DecidableEq, Repr

/-- What a command in EXECUTING still has to do: offer snapshot words (R172), wait for a RESTART's reset (R173),
present its result, or wait for the result's admission. -/
inductive Work where
  | writing (rest : List Word) (offset : Nat)
  | draining
  | answering (a : Answer)
  | answered
  deriving DecidableEq, Repr

/-- The state of the Command Unit (section 10.2). -/
inductive CuState where
  | idle
  | fetching (c : Command)
  | executing (c : Command) (w : Work)
  deriving DecidableEq, Repr

/-- The refusal record: a command refused BUSY, and whether its result record waits at the arbiter (R163). -/
structure RefusedCommand where
  opcode : BitVec 8
  label : BitVec 8
  offered : Bool
  deriving DecidableEq, Repr

/-- The Command Unit. -/
structure CommandUnit where
  state : CuState
  lockLevel : Nat
  refusal : Option RefusedCommand
  deriving DecidableEq, Repr

/-! ### Report Writer -/

/-- Record kinds (R83). -/
inductive ReportKind where
  | pathState | routeChange | timeEvent | slotEvent | routeResync | memoryError | pathRxStats | pathTxStats | routeStats
  deriving DecidableEq, Repr

/-- A record as its block submits it: the header's number and drop count come at placement (R176, R177). -/
structure Report where
  kind : ReportKind
  source : BitVec 8
  cause : BitVec 8
  stamp : Word
  fields : List (BitVec 32)
  deriving DecidableEq, Repr

/-- An item of the write list (R175). -/
inductive ListItem where
  | record (r : Report)
  | status
  deriving DecidableEq, Repr

/-- A ring (R175). -/
structure Ring where
  groups : Nat
  perGroup : Nat
  irqGroups : Nat
  mask : BitVec 10
  bases : Vector (Option Addr) 16
  group : Nat
  position : Nat
  completed : Nat
  consumer : Nat
  drops : Nat
  number : BitVec 16
  pending : Bool
  deriving DecidableEq, Repr

/-! ### Output pins -/

/-- One transfer on the part's own outputs. -/
inductive BusOut where
  /-- an agent's write is acknowledged (R2) -/
  | ack (tag : Tag)
  /-- a beat of read data goes back to an agent (R3) -/
  | readBeat (tag : Tag) (data : Word) (error last : Bool)
  /-- a write is issued at the Memory Port (R37) -/
  | memWrite (w : MemWrite)
  /-- a read is issued at the Memory Port (R39) -/
  | memRead (r : MemRead)
  deriving DecidableEq, Repr

end Sys2Proof.Machine
end

