-- ==== Sys2Proof/Machine/Defaults.lean ====
section
/-! DEFINITION. The values each block takes at power-on reset, as the rules give them. -/

namespace Sys2Proof.Machine

/-- R5: the strapped tag is MANAGEMENT, every other entry NONE, path 0 throughout. -/
def powerOnAgents (mgmtTag : Tag) : Vector AgentEntry 16 :=
  (Vector.replicate 16 ⟨.none, 0⟩).set mgmtTag ⟨.management, 0⟩ mgmtTag.isLt

/-- R8. -/
def emptyWindow : Window :=
  { enabled := false, kind := .plain, base := 0, sizeExp := 0, index := 0, transBase := 0, swap := false }

/-- R8. -/
def emptyEntry : WindowEntry := ⟨emptyWindow, emptyWindow, false⟩

/-- R19: 64 KiB sections, 256-byte slots. -/
def powerOnLayout : Layout := ⟨0, 0⟩

/-- R33. -/
def emptySteer : SteerRoute :=
  { openSlots := [], seq := 0, commits := 0, darkDiscards := 0, abandoned := 0, mirrored := 0, roleDiscards := 0,
    darkReported := false }

/-- R46. -/
def defaultDiscipline : Discipline :=
  { stepThreshold := 1000, lockWindow := 100, lockCount := 4, pulseWindow := 10000, gp := 2, gf := 1,
    rateLimit := 20000, holdoverLimit := 600 }

/-- R41. -/
def powerOnTimeBase : TimeBase :=
  { time := ⟨0, 0, 0⟩, secondsSet := false, epoch := 0, ref := .free, rate := 0, runNs := 0, runFrac := 0,
    current := none, previous := none, overcapture := false, prevError := none, lockRun := 0, strayRun := 0,
    lastAccepted := none, watchMark := 0, refp := ⟨false, 0⟩, p := .ms100, r := 0, s := 10, repetition := 0,
    stats := 10, disc := defaultDiscipline, boundaryDue := false }

/-- Section 6.1, power-on column. -/
def defaultSettings : PathSettings :=
  { cls := .mw, standby := false, txBase := 0, rxBase := 0, txLead := 0, maxDwell := 1000000, cutEnable := false,
    behaviour := .blank, autoRelease := false, asymmetry := 0 }

/-- R100. -/
def defaultHealth : HealthSettings :=
  { downLevel := -750, fadeLevel := -650, recoverLevel := -600, nFade := 3, nDown := 5, nRecover := 20, minStep := 0,
    timeout := 50, lossFade := 4, lossDown := 32, probation := 50, minSamples := 8 }

/-- R98, R99: the counts at the start of a stats period. -/
def zeroCounts : PathCounts :=
  { samples := 0, discarded := 0, minimum := none, maximum := none, sum := 0, losses := 0, commits := 0, probes := 0,
    departures := 0, expired := 0, blanked := 0, dwellSum := 0, dwellCount := 0, dwellMax := 0, reportBacks := 0,
    wins := 0, lateCopies := 0, marginSum := 0 }

/-- R84, R100. -/
def powerOnPath : PathRecord :=
  { state := .disabled, set := defaultSettings, hs := defaultHealth, belowFade := 0, belowDown := 0,
    aboveRecover := 0, lastRsl := 0, lastLock := false, lastStep := 0, timer := none, countdown := 0, farEnd := none,
    lastCause := 0, farEpoch := none, nearEpoch := none, est := none, jit := 0, rxCount := 0, rxAge := 0,
    expected := none, outOfOrder := 0, updLosses := 0, lastLosses := 0, tx := none, period := zeroCounts }

/-- R97. -/
def defaultEstimator : Estimator :=
  { k := 6, kj := 4, w := 4, maxPlausible := 20000000, reportStale := 20, switchMargin := 50, acceptHoldover := true }

/-- DARK, with neither active nor secondary (R123). -/
def darkChoice : Choice := ⟨.dark, none, none⟩

/-- R119. -/
def emptyRoute : RouteRecord :=
  { live := [], preload := [], preloadInterval := 10, pending := false, chosen := darkChoice, interval := 10,
    countdown := 10, cursor := 0, modeChanges := 0 }

/-- R139: an unseen record has all four fields at 0. -/
def unseen : Arrival := ⟨false, 0, 0, 0, false⟩

/-- R139. -/
def emptyMerger : MergeRecord :=
  { tracking := false, newest := 0, table := List.replicate 64 unseen, staleRun := 0, resyncCount := 8, stale := 0,
    resyncs := 0, repeats := 0 }

/-- R174. -/
def powerOnCommandUnit : CommandUnit := ⟨.idle, 0, none⟩

/-- R175. -/
def emptyRing : Ring :=
  { groups := 2, perGroup := 16, irqGroups := 1, mask := 0, bases := Vector.replicate 16 none, group := 0,
    position := 0, completed := 0, consumer := 0, drops := 0, number := 0, pending := false }

end Sys2Proof.Machine
end

