-- ==== Sys2Proof/Machine/State.lean ====
section
/-! DEFINITION. The state of the BL7208 and of its command queue, its reset, and the reasons a step can stop. -/

namespace Sys2Proof.Machine

/-- Everything the manual gives the part, as plain data (INVENTORY.md, State), and the queue of waiting commands. -/
@[ext]
structure State where
  /-- The commands that wait, oldest first: the model's command queue. -/
  pending : List Instr
  /-- How many free choices have been taken: the argument of the free values of Config (the model's own). -/
  choice : Nat
  /-- The transfers the part made at its ports in the last step. -/
  bus : List BusOut
  agents : Vector AgentEntry 16
  windows : Vector WindowEntry 8
  ctlBase : BitVec 8
  mgmtTag : Tag
  portWaiting : List PortRequest
  reads : List ReadRec
  readWait : List (MemRead × Nat)
  readReady : List MemRead
  readIssued : List MemRead
  fairCount : Nat
  nextRead : Nat
  layout : Layout
  steer : Vector SteerRoute 4
  pathSeq : Vector (BitVec 16) 8
  queue : List MemWrite
  offers : List Offer
  tb : TimeBase
  arrivals : Vector (List PendingArrival) 8
  overflows : Vector Nat 8
  paths : Vector PathRecord 8
  estimator : Estimator
  routes : Vector RouteRecord 4
  mergers : Vector MergeRecord 4
  cut : Filter
  cu : CommandUnit
  rings : Vector Ring 2
  writeList : List ListItem
  deriving DecidableEq, Repr

/-- The reasons a step stops the part: there is none. The manual gives every command an effect, and "the part raises no
error of its own on the bus" (R17); errors of memory are forwarded and reported. Nobody raises it; safe. -/
inductive Fault where
  deriving DecidableEq, Repr

/-- The reasons a step is refused. -/
inductive Refusal where
  /-- Raised by `exec` for a row that has no meaning yet; no row is left so. Safe: the run stops. -/
  | notModelled (mnemonic : String)
  deriving DecidableEq, Repr

/-- The part right after power-on reset with the straps as given (R5, R8, R18, R33, R40, R41, R79, R84, R97, R100, R119,
R139, R153, R174, R175). -/
def State.powerOn (ctlBase : BitVec 8) (mgmtTag : Tag) : State :=
  { pending := [], choice := 0, bus := [],
    agents := powerOnAgents mgmtTag, windows := Vector.replicate 8 emptyEntry, ctlBase := ctlBase, mgmtTag := mgmtTag,
    portWaiting := [], reads := [], readWait := [], readReady := [], readIssued := [], fairCount := 0, nextRead := 0,
    layout := powerOnLayout, steer := Vector.replicate 4 emptySteer, pathSeq := Vector.replicate 8 0,
    queue := [], offers := [], tb := powerOnTimeBase,
    arrivals := Vector.replicate 8 [], overflows := Vector.replicate 8 0,
    paths := Vector.replicate 8 powerOnPath, estimator := defaultEstimator, routes := Vector.replicate 4 emptyRoute,
    mergers := Vector.replicate 4 emptyMerger, cut := ⟨false, 0⟩, cu := powerOnCommandUnit,
    rings := Vector.replicate 2 emptyRing, writeList := [] }

/-- The machine right after reset. The straps are inputs; their values here, 0 and 0, are a DESIGN CHOICE (log 10). -/
def State.reset : State := State.powerOn 0 0

end Sys2Proof.Machine
end

