-- ==== Sys2Proof/Machine/Flags.lean ====
section
/-! DEFINITION. Flags: the rings' pending flags and IRQ_N (R180, R181), the flag fields of the commit word (R80), and the
saturating counts of the rules. -/

namespace Sys2Proof.Machine

/-- A count that stops at `bound` (Conventions, Arithmetic). -/
def saturate (bound n : Nat) : Nat := min n bound

/-- A count that saturates at 2^32 − 1. -/
def sat32 (n : Nat) : Nat := saturate 4294967295 n

/-- A count that saturates at 65,535. -/
def sat16 (n : Nat) : Nat := saturate 65535 n

/-- A count that saturates at 255. -/
def sat8 (n : Nat) : Nat := saturate 255 n

/-- Ready is bit 16 of the commit word (R80). -/
def readyBit (w : Word) : Bool := w.getLsbD 16

/-- Whether an item of the write list is a status word. -/
def ListItem.isStatus : ListItem → Bool
  | .status => true
  | .record _ => false

/-- Whether an item of the write list is a ring record. -/
def ListItem.isRecord : ListItem → Bool
  | .status => false
  | .record _ => true

/-- IRQ_N is asserted while either pending flag is set (R180). -/
def State.irqAsserted (s : State) : Bool := s.rings[(0 : RingId)].pending || s.rings[(1 : RingId)].pending

/-- The state with one ring replaced. -/
def State.setRing (s : State) (r : RingId) (x : Ring) : State := { s with rings := s.rings.set r x r.isLt }

/-- A change of a pending flag lists a status word, unless one already waits (R180). -/
def listStatus (s : State) : State :=
  if s.writeList.any ListItem.isStatus then s else { s with writeList := s.writeList ++ [.status] }

/-- Sets a ring's pending flag (R180). -/
def setPending (r : RingId) (s : State) : State :=
  if s.rings[r].pending then s else listStatus (s.setRing r { s.rings[r] with pending := true })

/-- Clears a ring's pending flag (R181): a flag already clear stays clear and causes no status word. -/
def clearPending (r : RingId) (s : State) : State :=
  if s.rings[r].pending then listStatus (s.setRing r { s.rings[r] with pending := false }) else s

end Sys2Proof.Machine
end

