-- ==== Sys2Proof/Machine/Ops.lean ====
section
/-! DEFINITION. The operations every block shares: updates of the indexed records, bit fields of words (R80 to R83), byte
order (R16), readings and stamps (R54, R55, R65), the arithmetic of two stamps (R69, R86), and the submission of a
report (R176, R178). -/

namespace Sys2Proof.Machine

/-! ### Updates of indexed records -/

/-- The state with one path record replaced. -/
def State.setPathRec (s : State) (p : Path) (x : PathRecord) : State := { s with paths := s.paths.set p x p.isLt }

/-- The state with one route record replaced. -/
def State.setRouteRec (s : State) (r : Route) (x : RouteRecord) : State := { s with routes := s.routes.set r x r.isLt }

/-- The state with one route's Steering Unit record replaced. -/
def State.setSteer (s : State) (r : Route) (x : SteerRoute) : State := { s with steer := s.steer.set r x r.isLt }

/-- The state with one merger record replaced. -/
def State.setMerger (s : State) (r : Route) (x : MergeRecord) : State := { s with mergers := s.mergers.set r x r.isLt }

/-- The state with one path's pending-arrival list replaced. -/
def State.setArrivals (s : State) (p : Path) (x : List PendingArrival) : State :=
  { s with arrivals := s.arrivals.set p x p.isLt }

/-- The state with one window entry replaced. -/
def State.setWindowEntry (s : State) (i : Fin 8) (x : WindowEntry) : State :=
  { s with windows := s.windows.set i x i.isLt }

/-- The state with the Time Base replaced. -/
def State.setTb (s : State) (x : TimeBase) : State := { s with tb := x }

/-- The state with the filter of CUT_N replaced. -/
def State.setCut (s : State) (x : Filter) : State := { s with cut := x }

/-- The state with a path's period counts changed. -/
def countPath (p : Path) (f : PathCounts → PathCounts) (s : State) : State :=
  s.setPathRec p { s.paths[p] with period := f s.paths[p].period }

/-- A step starts with no transfer on the output pins. -/
def State.quiet (s : State) : State := { s with bus := [] }

/-- One transfer leaves the part. -/
def emit (o : BusOut) (s : State) : State := { s with bus := s.bus ++ [o] }

/-! ### Bit fields and byte order -/

/-- The field of `len` bits from bit `lo` up, as a number. -/
def field (w : Word) (lo len : Nat) : Nat := (w.extractLsb' lo len).toNat

/-- The word with the field of `len` bits from bit `lo` up replaced. -/
def setField (w : Word) (lo len : Nat) (v : Nat) : Word :=
  (w &&& ~~~(BitVec.ofNat 64 (2 ^ len - 1) <<< lo)) ||| (BitVec.ofNat 64 (v % 2 ^ len) <<< lo)

/-- A flag as a number. -/
def bit (b : Bool) : Nat := if b then 1 else 0

/-- The eight bytes of a beat in reverse (R16). -/
def swapBytes (w : Word) : Word :=
  (w.extractLsb' 0 8 ++ w.extractLsb' 8 8 ++ w.extractLsb' 16 8 ++ w.extractLsb' 24 8 ++
    w.extractLsb' 32 8 ++ w.extractLsb' 40 8 ++ w.extractLsb' 48 8 ++ w.extractLsb' 56 8 : BitVec (8 + 8 + 8 + 8 + 8 + 8 + 8 + 8))

/-- The eight byte enables of a beat in reverse (R16). -/
def swapEnables (e : BitVec 8) : BitVec 8 :=
  (e.extractLsb' 0 1 ++ e.extractLsb' 1 1 ++ e.extractLsb' 2 1 ++ e.extractLsb' 3 1 ++
    e.extractLsb' 4 1 ++ e.extractLsb' 5 1 ++ e.extractLsb' 6 1 ++ e.extractLsb' 7 1 : BitVec (1 + 1 + 1 + 1 + 1 + 1 + 1 + 1))

/-- The byte enables of a beat between the agent's view and memory's view of a window (R16). -/
def swapEnable (swap : Bool) (e : BitVec 8) : BitVec 8 := if swap then swapEnables e else e

/-- A beat between the agent's view and memory's view of a window (R16). -/
def swapBeat (swap : Bool) (b : Beat) : Beat := if swap then ⟨swapBytes b.data, swapEnables b.en⟩ else b

/-- All eight byte enables of a beat set. -/
def allEnables : BitVec 8 := 0xFF

/-- A beat with all its byte enables. -/
def beatFull (b : Beat) : Bool := b.en == allEnables

/-! ### Readings and stamps -/

/-- Nanoseconds in a second. -/
def billion : Nat := 1000000000

/-- Stamp quality, from seconds-set and the reference state (R55). -/
def qualityOf (secondsSet : Bool) (r : RefState) : Quality :=
  if secondsSet then
    match r with
    | .free => .free
    | .acquiring | .holdover => .holdover
    | .locked => .locked
  else .unset

/-- One reading of the Time Base (R54). -/
def State.reading (s : State) : Reading := ⟨s.tb.time, s.tb.epoch, qualityOf s.tb.secondsSet s.tb.ref⟩

/-- Quality codes of the stamp (R80). -/
def Quality.code : Quality → Nat
  | .unset => 0
  | .free => 1
  | .holdover => 2
  | .locked => 3

/-- A stamp (R65, R80): seconds modulo 2^27, nanoseconds, epoch, quality, path. -/
def stampWord (r : Reading) (p : Nat) : Word :=
  setField (setField (setField (setField (setField 0 0 27 r.time.sec.toNat) 27 30 r.time.ns) 57 2 r.epoch.toNat)
    59 2 r.quality.code) 61 3 p

/-- The epoch field of a stamp (R80). -/
def stampEpoch (w : Word) : BitVec 2 := w.extractLsb' 57 2

/-- The quality field of a stamp (R80). -/
def stampQuality (w : Word) : Quality :=
  match field w 59 2 with
  | 0 => .unset
  | 1 => .free
  | 2 => .holdover
  | _ => .locked

/-- A reading less a stamp, in nanoseconds (R69, R86): the seconds difference modulo 2^27, read as signed, times
10^9, plus the difference of the nanoseconds. -/
def sinceStamp (r : Reading) (w : Word) : Int :=
  (r.time.sec.setWidth 27 - w.extractLsb' 0 27 : BitVec 27).toInt * billion + ((r.time.ns : Int) - (field w 27 30 : Nat))

/-- TIME some nanoseconds later, less than a second (R70). -/
def Time.later (t : Time) (n : Nat) : Time :=
  if t.ns + n < billion then { t with ns := t.ns + n } else { t with sec := t.sec + 1, ns := t.ns + n - billion }

/-! ### Reports -/

/-- Kind codes (R83). -/
def ReportKind.code : ReportKind → Nat
  | .pathState => 1
  | .routeChange => 2
  | .timeEvent => 3
  | .slotEvent => 4
  | .routeResync => 5
  | .memoryError => 6
  | .pathRxStats => 7
  | .pathTxStats => 8
  | .routeStats => 9

/-- The ring of each kind (R176). -/
def ReportKind.ring : ReportKind → RingId
  | .pathState | .routeChange | .timeEvent | .slotEvent | .routeResync | .memoryError => 0
  | .pathRxStats | .pathTxStats | .routeStats => 1

/-- The urgent kinds (R180). -/
def ReportKind.urgent : ReportKind → Bool
  | .pathState | .routeChange | .timeEvent => true
  | .slotEvent | .routeResync | .memoryError | .pathRxStats | .pathTxStats | .routeStats => false

/-- A 32-bit payload field of an unsigned quantity (R83). -/
def u32 (n : Nat) : BitVec 32 := BitVec.ofNat 32 n

/-- A 32-bit payload field of a signed quantity, in two's complement (R83). -/
def i32 (n : Int) : BitVec 32 := BitVec.ofInt 32 n

/-- An absent path is coded 255 (R136, R182). -/
def pathCode : Option Path → Nat
  | some p => p.val
  | none => 255

/-- An UNKNOWN or absent metric is coded 2^32 − 1 (R136, R182). -/
def metricCode : Option Nat → Nat
  | some m => m
  | none => 4294967295

/-- Health codes (R80). -/
def Health.code : Health → Nat
  | .disabled => 0
  | .probation => 1
  | .up => 2
  | .fading => 3
  | .down => 4
  | .cut => 5

/-- Mode codes (R136). -/
def Mode.code : Mode → Nat
  | .single => 0
  | .mirror => 1
  | .fallback => 2
  | .dark => 3

/-- A dropped record (R178): taken and counted while the drop count is below 65,535. -/
def countDrop (k : ReportKind) (s : State) : State :=
  let ring := s.rings[k.ring]
  let s := if ring.drops < 65535 then s.setRing k.ring { ring with drops := ring.drops + 1, number := ring.number + 1 } else s
  if k.urgent then setPending 0 s else s

/-- The submission of a record (R176): suppressed by the mask, dropped when the write list holds eight records, or
listed. -/
def submit (r : Report) (s : State) : State :=
  if s.rings[r.kind.ring].mask.getLsbD r.kind.code then s
  else if (s.writeList.filter ListItem.isRecord).length < Config.writeListRecords then
    { s with writeList := s.writeList ++ [.record r] }
  else countDrop r.kind s

/-- A record made from a reading (R83): the stamp word carries `stampPath`. -/
def makeReport (k : ReportKind) (source cause : Nat) (r : Reading) (stampPath : Nat) (fields : List (BitVec 32)) : Report :=
  ⟨k, BitVec.ofNat 8 source, BitVec.ofNat 8 cause, stampWord r stampPath, fields⟩

/-- SLOT_EVENT (R182) with the stamp of the event. -/
def slotEvent (cause : Nat) (r : Route) (slot : Nat) (b : Option Binding) (opened : Time) (tag : Nat) (s : State) : State :=
  submit (makeReport .slotEvent r.val cause s.reading 0
    [u32 slot, u32 (pathCode (b.map Binding.primary)),
     u32 (match b.bind Binding.extra with | none => 0 | some (.mirror, _) => 1 | some (.probe, _) => 2),
     u32 (pathCode ((b.bind Binding.extra).map Prod.snd)), u32 opened.sec.toNat, u32 opened.ns, u32 tag]) s

/-- MEMORY_ERROR (R17, R182): cause 1 for a read, 2 for a write; the tag is 255 for the part's own accesses. -/
def memoryError (cause : Nat) (addr : Addr) (tag : Nat) (s : State) : State :=
  submit (makeReport .memoryError 0 cause s.reading 0 [addr, u32 tag]) s

/-! ### Write Queue entries -/

/-- A write of n beats takes 1 + n entries (R34). -/
def MemWrite.entries (w : MemWrite) : Nat := 1 + w.beats.length

/-- The entries of some writes together (R34). -/
def entriesOf (ws : List MemWrite) : Nat := (ws.map MemWrite.entries).sum

/-- The entries occupied in the Write Queue. -/
def State.occupied (s : State) : Nat := entriesOf s.queue

end Sys2Proof.Machine
end

