-- ==== Sys2Proof/Machine/Operands.lean ====
section
/-! DEFINITION. The operands of the commands: how a request is split, classified and translated (R4, R7, R9, R12 to R15,
R64), which words its beats cover, and how the argument words of a command are read, checked and clamped (R164). -/

namespace Sys2Proof.Machine

/-! ### Layout and windows -/

/-- The section size in bytes (section 2.1). -/
def Layout.section (l : Layout) : Nat := 65536 * 2 ^ l.sectionExp.val

/-- The slot size in bytes (section 2.1). -/
def Layout.slot (l : Layout) : Nat := 256 * 2 ^ l.slotExp.val

/-- A window's size in bytes (section "The window table"). -/
def Window.size (w : Window) : Nat := 65536 * 2 ^ w.sizeExp.val

/-- Whether an entry covers an address (R9). -/
def Window.covers (w : Window) (a : Addr) : Bool := w.base.toNat ≤ a.toNat && a.toNat < w.base.toNat + w.size

/-- Whether a size suits its kind: one section for ROUTE_TX, four for PATH_TX (R9). -/
def sizeSuits (l : Layout) (k : WindowKind) (size : Nat) : Bool :=
  match k with
  | .routeTx => size == l.section
  | .pathTx => size == 4 * l.section
  | .pathRx | .status | .plain => true

/-- Whether an entry is mismatched (R9). -/
def Window.mismatched (l : Layout) (w : Window) : Bool := !sizeSuits l w.kind w.size

/-- The path a PATH_TX or PATH_RX window serves. -/
def Window.path (w : Window) : Path := ⟨w.index.toNat % 8, Nat.mod_lt _ (by decide)⟩

/-- The route a ROUTE_TX window serves. -/
def Window.route (w : Window) : Route := ⟨w.index.toNat % 4, Nat.mod_lt _ (by decide)⟩

/-- The control page base: CTLBASE × 16 MiB (R161). -/
def State.pageBase (s : State) : Addr := s.ctlBase ++ (0 : BitVec 24)

/-- What the Window Decoder makes of an address (R9): the offset in the control page, the window hit and the offset in
it, or nothing. -/
inductive Target where
  | page (offset : Nat)
  | window (w : Window) (offset : Nat)
  | through
  deriving DecidableEq, Repr

/-- The lowest-numbered live entry that is enabled, covers the address and is not mismatched (R9). -/
def State.hit (s : State) (a : Addr) : Option Window :=
  (s.windows.toList.map WindowEntry.live).find? (fun w => w.enabled && w.covers a && !w.mismatched s.layout)

/-- The classification of a request by the address of its first beat (R9). -/
def State.classify (s : State) (a : Addr) : Target :=
  if a.toNat / 4096 = s.pageBase.toNat / 4096 then .page (a.toNat % 4096)
  else
    match s.hit a with
    | some w => .window w (a.toNat - w.base.toNat)
    | none => .through

/-- A translated address: the destination base plus the offset, modulo 2^32 (R12). -/
def translate (base : Addr) (offset : Nat) : Addr := base + BitVec.ofNat 32 offset

/-- A translation base or receive base with its low six bits taken as zero (R12). -/
def blockBase (a : Addr) : Addr := a &&& ~~~63

/-- The address of a route's copy on a path (R19). -/
def State.copyAddr (s : State) (q : Path) (r : Route) (offset : Nat) : Addr :=
  translate s.paths[q].set.txBase (r.val * s.layout.section + offset)

/-- The destination base of a window that is not a route window (R12). -/
def State.windowBase (s : State) (w : Window) : Addr :=
  match w.kind with
  | .pathTx => s.paths[w.path].set.txBase
  | .pathRx => blockBase s.paths[w.path].set.rxBase
  | .status | .plain | .routeTx => blockBase w.transBase

/-- Whether a tag is the MODEM agent of a path (R7). -/
def State.isModemOf (s : State) (t : Tag) (p : Path) : Bool := s.agents[t].role == .modem && s.agents[t].path == p

/-! ### Requests -/

/-- The low three address bits are taken as zero (The Agent Port). -/
def wordAligned (a : Addr) : Addr := a &&& ~~~7

/-- The beats a request has room for before the next 64-byte boundary (R4). -/
def beatsBelowBoundary (a : Addr) : Nat := 8 - a.toNat / 8 % 8

/-- A write as the port takes it: whole, or in two halves at a 64-byte boundary, acknowledged with the second (R4). -/
def splitWrite (w : WriteReq) : List PortRequest :=
  let a := wordAligned w.addr
  let n := beatsBelowBoundary a
  if w.beats.length ≤ n then [.write { w with addr := a } true]
  else
    [.write { w with addr := a, beats := w.beats.take n } false,
     .write { w with addr := a + BitVec.ofNat 32 (8 * n), beats := w.beats.drop n } true]

/-- A read as the port takes it: whole, or in two halves whose beats return as one response (R4). -/
def splitRead (r : ReadReq) : List PortRequest :=
  let a := wordAligned r.addr
  let n := beatsBelowBoundary a
  if r.enables.length ≤ n then [.read { r with addr := a } true]
  else
    [.read { r with addr := a, enables := r.enables.take n } false,
     .read { r with addr := a + BitVec.ofNat 32 (8 * n), enables := r.enables.drop n } true]

/-- The beat that lies at slot word `w`, of beats that begin at slot offset `off` (R64). -/
def beatOfWord (off : Nat) (beats : List Beat) (w : Nat) : Option Beat :=
  if off / 8 ≤ w then beats[w - off / 8]? else none

/-- The value a write gives slot word `w`, when it covers the word with all eight byte enables (R64). -/
def coveredWord (off : Nat) (beats : List Beat) (w : Nat) : Option Word :=
  match beatOfWord off beats w with
  | some b => if beatFull b then some b.data else none
  | none => none

/-- Whether a read of `n` beats from slot word `first` covers slot word `w` (R64). -/
def readCovers (first n w : Nat) : Bool := first ≤ w && w < first + n

/-- The beats with the one at slot word `w`, if it is covered, given another value. -/
def replaceWord (off : Nat) (beats : List Beat) (w : Nat) (v : Word) : List Beat :=
  match coveredWord off beats w with
  | some _ => beats.set (w - off / 8) ⟨v, allEnables⟩
  | none => beats

/-- Whether a write is a commit by its contents: word 0 with all byte enables and ready = 1 (R21, R75). -/
def isCommit (off : Nat) (beats : List Beat) : Bool :=
  match coveredWord off beats 0 with
  | some w => readyBit w
  | none => false

/-! ### Argument words -/

/-- Argument word k, from 1 to 7 (R161). -/
def argWord (args : ArgWords) (k : Nat) : Word := args.toList.getD (k - 1) 0

/-- An argument word as an unsigned value (R164). -/
def argNat (args : ArgWords) (k : Nat) : Nat := (argWord args k).toNat

/-- A packed unsigned argument (R164). -/
def argField (args : ArgWords) (k lo len : Nat) : Nat := field (argWord args k) lo len

/-- A packed flag argument (R164). -/
def argFlag (args : ArgWords) (k lo : Nat) : Bool := (argWord args k).getLsbD lo

/-- A packed signed argument of 16 bits (R168). -/
def argSigned16 (args : ArgWords) (k lo : Nat) : Int := ((argWord args k).extractLsb' lo 16).toInt

/-- An address argument: the low 32 bits of its word (R164). -/
def argAddr (args : ArgWords) (k : Nat) : Addr := (argWord args k).setWidth 32

/-- A value outside a range is replaced by the nearer end (Conventions). -/
def clampNat (lo hi n : Nat) : Nat := max lo (min n hi)

/-- The same for a signed value. -/
def clampInt (lo hi n : Int) : Int := max lo (min n hi)

/-- Status and detail after the clamps of step 4 of R164: each argument's index and whether it was changed, in index
order. -/
def clampedAnswer (clamps : List (Nat × Bool)) : Answer :=
  match clamps.find? Prod.snd with
  | some (i, _) => ⟨.doneClamped, i, 0⟩
  | none => ⟨.done, 0, 0⟩

/-- BAD_ARGUMENT at the first argument, in index order, whose structural check fails (step 3 of R164). -/
def firstBad (checks : List (Nat × Bool)) : Option Nat := (checks.find? Prod.snd).map Prod.fst

/-- BAD_ARGUMENT with an index. -/
def badArgument (i : Nat) : Answer := ⟨.badArgument, i, 0⟩

end Sys2Proof.Machine
end

