-- ==== Sys2Proof/Machine/Delay.lean ====
section
/-! DEFINITION. The Path Monitor's measurements: the delay sample (R86 to R89), the RX view (R91), the sequence check
(R90), the TX view (R94), freshness (R95), the rank metric (R96) and the report-back word (R71). -/

namespace Sys2Proof.Machine

/-- The TX view is fresh (R95). -/
def txFresh (e : Estimator) (p : PathRecord) : Bool :=
  match p.tx with
  | some v => v.age ≤ e.reportStale
  | none => false

/-- The RX view is current (R95). -/
def rxCurrent (e : Estimator) (p : PathRecord) : Bool := p.est.isSome && p.rxAge ≤ e.reportStale

/-- base delay + floor(w × base jitter ÷ 4) (R96). -/
def rankOf (e : Estimator) (delay jitter : Nat) : Nat := delay + e.w * jitter / 4

/-- The rank metric; none is UNKNOWN (R96). -/
def metric (e : Estimator) (p : PathRecord) : Option Nat :=
  match p.tx, p.est with
  | some v, est =>
    if v.age ≤ e.reportStale then some (rankOf e v.delay v.jitter)
    else
      match est with
      | some x => if p.rxAge ≤ e.reportStale then some (rankOf e ((x / 16 : Nat) + p.set.asymmetry : Int).toNat (p.jit / 16)) else none
      | none => none
  | none, some x => if p.rxAge ≤ e.reportStale then some (rankOf e ((x / 16 : Nat) + p.set.asymmetry : Int).toNat (p.jit / 16)) else none
  | none, none => none

/-- The metric of a path as it stands at the question (R96). -/
def State.metricOf (s : State) (p : Path) : Option Nat := metric s.estimator s.paths[p]

/-- A valid sample enters the RX view (R91). -/
def enterRx (e : Estimator) (d : Nat) (p : PathRecord) : PathRecord :=
  match p.est with
  | none => { p with est := some (16 * d), jit := 0, rxCount := sat32 (p.rxCount + 1) }
  | some x =>
    let diff : Int := 16 * (d : Int) - x
    { p with
      est := some (clampInt 0 (16 * e.maxPlausible) (x + diff / 2 ^ e.k)).toNat
      jit := sat32 ((p.jit : Int) + ((diff.natAbs : Int) - p.jit) / 2 ^ e.kj).toNat
      rxCount := sat32 (p.rxCount + 1) }

/-- A valid sample enters the period counts (R89). -/
def enterCounts (d : Nat) (c : PathCounts) : PathCounts :=
  { c with
    samples := sat32 (c.samples + 1)
    minimum := some (match c.minimum with | none => d | some m => min m d)
    maximum := some (match c.maximum with | none => d | some m => max m d)
    sum := saturate (2 ^ 48 - 1) (c.sum + d) }

/-- One more discarded sample (R87). -/
def countDiscard (p : PathRecord) : PathRecord :=
  { p with period := { p.period with discarded := sat32 (p.period.discarded + 1) } }

/-- Whether a quality fails the quality test or the holdover test (R87). -/
def qualityFails (e : Estimator) (q : Quality) : Bool :=
  match q with
  | .unset | .free => true
  | .holdover => !e.acceptHoldover
  | .locked => false

/-- Whether a remembered epoch passes a new one (R88). -/
def epochPasses (remembered : Option (BitVec 2)) (now : BitVec 2) : Bool :=
  match remembered with
  | none => true
  | some e => e == now

/-- Whether a sample is valid: it fails none of the four tests (R87, R88). -/
def sampleValid (e : Estimator) (stamp : Word) (r : Reading) (p : PathRecord) : Bool :=
  0 ≤ sinceStamp r stamp && sinceStamp r stamp ≤ e.maxPlausible &&
    !qualityFails e (stampQuality stamp) && !qualityFails e r.quality &&
    epochPasses p.farEpoch (stampEpoch stamp) && epochPasses p.nearEpoch r.epoch

/-- The remembered epochs after a sample (R88). -/
def rememberEpochs (stamp : Word) (r : Reading) (valid : Bool) (p : PathRecord) : PathRecord :=
  { p with
    farEpoch := some (stampEpoch stamp)
    nearEpoch := match p.nearEpoch with
      | none => if valid then some r.epoch else none
      | some _ => some r.epoch }

/-- A sample input: the departure stamp and the arrival reading (R86 to R89). -/
def takeSample (e : Estimator) (stamp : Word) (r : Reading) (p : PathRecord) : PathRecord :=
  if sampleValid e stamp r p then
    let d := (sinceStamp r stamp).toNat
    rememberEpochs stamp r true { enterRx e d p with period := enterCounts d p.period, rxAge := 0 }
  else rememberEpochs stamp r false (countDiscard p)

/-- The sequence check (R90). -/
def takeSequence (seq : BitVec 16) (p : PathRecord) : PathRecord :=
  match p.expected with
  | none => { p with expected := some (seq + 1) }
  | some e =>
    let lost := (seq - e).toNat
    if lost ≤ 32767 then
      { p with
        expected := some (seq + 1)
        updLosses := sat32 (p.updLosses + lost)
        period := { p.period with losses := sat32 (p.period.losses + lost) } }
    else { p with outOfOrder := sat16 (p.outOfOrder + 1) }

/-- A delivered report-back word on the TX view and its count (R94). -/
def takeReportBack (w : Word) (p : PathRecord) : PathRecord :=
  { p with
    tx := if w.getLsbD 57 then some ⟨field w 0 30, field w 30 16, field w 58 6⟩ else p.tx
    period := { p.period with reportBacks := sat32 (p.period.reportBacks + 1) } }

/-- The report-back word of a path record (R71, R80). -/
def reportBackWord (p : PathRecord) : Word :=
  let base := setField (setField 0 46 8 (sat8 p.lastLosses)) 54 3 p.state.code
  match p.est with
  | none => base
  | some x =>
    setField (setField (setField (setField base 0 30 (saturate (2 ^ 30 - 1) (x / 16))) 30 16 (sat16 (p.jit / 16)))
      57 1 1) 58 6 (saturate 63 p.rxAge)

end Sys2Proof.Machine
end

