-- ==== Sys2Proof/Machine/Routes.lean ====
section
/-! DEFINITION. The Route Selector (07_route_selection_and_fallback.md): the best of a set and the secondary search (R124),
the full selection (R125), the reselection at a change of path state (R126 to R130), installation (R122), the update
work (R131, R132) and the targets of a slot (R133, R134). -/

namespace Sys2Proof.Machine

/-! ### Eligible candidates -/

/-- Whether metric `m` ranks before metric `n` (R124): lower first, every known one before UNKNOWN. -/
def ranksBefore (m n : Option Nat) : Bool :=
  match m, n with
  | some a, some b => a < b
  | some _, none => true
  | none, _ => false

/-- The best of some paths in position order (R124): ties go to the earlier position. -/
def State.best (s : State) : List Path → Option Path
  | [] => none
  | p :: ps =>
    match s.best ps with
    | none => some p
    | some q => if ranksBefore (s.metricOf q) (s.metricOf p) then some q else some p

/-- The candidates of a live list in UP with the given standby copy, other than `except`, in position order (R124). -/
def State.upCandidates (s : State) (live : List Candidate) (standby : Bool) (except : Option Path) : List Path :=
  (live.filter (fun c => c.standby == standby && s.paths[c.path].state == .up && except != some c.path)).map Candidate.path

/-- The best UP candidate with the given standby copy, other than `except`. -/
def State.bestUp (s : State) (live : List Candidate) (standby : Bool) (except : Option Path) : Option Path :=
  s.best (s.upCandidates live standby except)

/-- The secondary search for active `a` (R124). -/
def State.secondaryFor (s : State) (live : List Candidate) (a : Path) : Option Path :=
  match s.bestUp live false (some a) with
  | some q => some q
  | none => s.bestUp live true (some a)

/-- Whether a live list names a path with the given standby copy. -/
def namesAs (live : List Candidate) (p : Path) (standby : Bool) : Bool :=
  live.any (fun c => c.path == p && c.standby == standby)

/-- Whether a live list names a path. -/
def names (live : List Candidate) (p : Path) : Bool := live.any (fun c => c.path == p)

/-- The continuing active path (R124): the present active, a non-standby candidate in FADING. -/
def State.continuing (s : State) (rt : RouteRecord) : Option Path :=
  match rt.chosen.active with
  | some a => if namesAs rt.live a false && s.paths[a].state == .fading then some a else none
  | none => none

/-- The full selection (R125). -/
def State.fullSelection (s : State) (rt : RouteRecord) : Choice :=
  match s.bestUp rt.live false none, s.continuing rt, s.bestUp rt.live true none with
  | some a, _, _ => ⟨.single, some a, none⟩
  | none, some a, some q => ⟨.mirror, some a, some q⟩
  | none, some a, none => ⟨.single, some a, none⟩
  | none, none, some q => ⟨.fallback, some q, none⟩
  | none, none, none => darkChoice

/-- MIRROR on `a` with what a secondary search finds, or SINGLE on `a` (R127, R128). -/
def State.mirrorOrSingle (s : State) (live : List Candidate) (a : Path) : Choice :=
  match s.secondaryFor live a with
  | some q => ⟨.mirror, some a, some q⟩
  | none => ⟨.single, some a, none⟩

/-! ### Changes of a route's choice -/

/-- Cause codes of ROUTE_CHANGE (R136). -/
inductive RouteCause where
  | listApplied | standbyChanged | activeFading | activeLost | activeRecovered | secondaryLost | secondaryImproved
  | candidateUp | rerank | fallbackReturn
  deriving DecidableEq, Repr

/-- The code of each cause (R136). -/
def RouteCause.code : RouteCause → Nat
  | .listApplied => 1
  | .standbyChanged => 2
  | .activeFading => 3
  | .activeLost => 4
  | .activeRecovered => 5
  | .secondaryLost => 6
  | .secondaryImproved => 7
  | .candidateUp => 8
  | .rerank => 9
  | .fallbackReturn => 10

/-- The metric of an optional path; an absent path has none (R136). -/
def State.metricOfOption (s : State) : Option Path → Option Nat
  | some p => s.metricOf p
  | none => none

/-- The ROUTE_CHANGE record of a change from `old` to `new` (R136, R182). -/
def State.routeChange (s : State) (r : Route) (cause : RouteCause) (causing : Option Path) (old new : Choice) : Report :=
  makeReport .routeChange r.val cause.code s.reading 0
    [u32 new.mode.code, u32 (pathCode new.active), u32 (pathCode new.secondary),
     u32 old.mode.code, u32 (pathCode old.active), u32 (pathCode old.secondary), u32 (pathCode causing),
     u32 (metricCode (s.metricOfOption new.active)), u32 (metricCode (s.metricOfOption old.active))]

/-- A route takes a choice: nothing if it is the present one, else the change, its count and its report (R136, R137). -/
def choose (r : Route) (cause : RouteCause) (causing : Option Path) (new : Choice) (s : State) : State :=
  let rt := s.routes[r]
  if new = rt.chosen then s
  else
    let changes := if new.mode = rt.chosen.mode then rt.modeChanges else sat32 (rt.modeChanges + 1)
    submit (s.routeChange r cause causing rt.chosen new)
      (s.setRouteRec r { rt with chosen := new, modeChanges := changes })

/-! ### Reselection (R126 to R130) -/

/-- A state in which a path carries a route no longer: DOWN, CUT or DISABLED (R127, R128). -/
def Health.lost : Health → Bool
  | .down | .cut | .disabled => true
  | .probation | .up | .fading => false

/-- What a change of path `q` from `old` to `new` makes of a route in SINGLE (R127). -/
def State.reselectSingle (s : State) (rt : RouteRecord) (q : Path) (old new : Health) : Option (RouteCause × Choice) :=
  match rt.chosen.active with
  | none => none
  | some a =>
    if q = a then
      if new.lost then some (.activeLost, s.fullSelection rt)
      else if old = .up ∧ new = .fading then some (.activeFading, s.mirrorOrSingle rt.live a)
      else none
    else if new = .up ∧ s.paths[a].state = .fading then some (.candidateUp, s.mirrorOrSingle rt.live a)
    else none

/-- The same for MIRROR (R128). -/
def State.reselectMirror (s : State) (rt : RouteRecord) (q : Path) (old new : Health) : Option (RouteCause × Choice) :=
  match rt.chosen.active, rt.chosen.secondary with
  | some a, some b =>
    if q = a then
      if new.lost then some (.activeLost, s.fullSelection rt)
      else if new = .up then some (.activeRecovered, ⟨.single, some a, none⟩)
      else none
    else if q = b then
      if old = .up ∧ new ≠ .up then some (.secondaryLost, s.mirrorOrSingle rt.live a) else none
    else if new = .up ∧ namesAs rt.live b true = true ∧ namesAs rt.live q false = true then
      some (.secondaryImproved, ⟨.mirror, some a, s.bestUp rt.live false (some a)⟩)
    else none
  | _, _ => none

/-- The same for FALLBACK (R129). -/
def State.reselectFallback (s : State) (rt : RouteRecord) (q : Path) (new : Health) : Option (RouteCause × Choice) :=
  if rt.chosen.active = some q ∧ new ≠ .up then some (.activeLost, s.fullSelection rt) else none

/-- The same for DARK (R130). -/
def State.reselectDark (s : State) (rt : RouteRecord) (new : Health) : Option (RouteCause × Choice) :=
  if new = .up then some (.candidateUp, s.fullSelection rt) else none

/-- What a change of a named path makes of a route, by its mode (R126). -/
def State.reselection (s : State) (rt : RouteRecord) (q : Path) (old new : Health) : Option (RouteCause × Choice) :=
  match rt.chosen.mode with
  | .single => s.reselectSingle rt q old new
  | .mirror => s.reselectMirror rt q old new
  | .fallback => s.reselectFallback rt q new
  | .dark => s.reselectDark rt new

/-- The reselection of one route (R126). -/
def reselectRoute (q : Path) (old new : Health) (r : Route) (s : State) : State :=
  if names s.routes[r].live q then
    match s.reselection s.routes[r] q old new with
    | some (cause, c) => choose r cause (some q) c s
    | none => s
  else s

/-- The reselection of every route that names the changed path, route 0 first (R126). -/
def reselect (q : Path) (old new : Health) (s : State) : State :=
  allRoutes.foldl (fun s r => reselectRoute q old new r s) s

/-! ### Installation and standby changes -/

/-- A full selection of one route with its report (R125, R136). -/
def fullyReselect (cause : RouteCause) (causing : Option Path) (r : Route) (s : State) : State :=
  choose r cause causing (s.fullSelection s.routes[r]) s

/-- A path's standby flag copied into its entries of a live list (R120). -/
def copyStandby (p : Path) (flag : Bool) (live : List Candidate) : List Candidate :=
  live.map (fun c => if c.path = p then { c with standby := flag } else c)

/-- The same in one route's record. -/
def copyIntoRoute (p : Path) (flag : Bool) (s : State) (r : Route) : State :=
  s.setRouteRec r { s.routes[r] with live := copyStandby p flag s.routes[r].live }

/-- The full selection of one route at a change of a path's standby flag (R120). -/
def reselectNamed (p : Path) (s : State) (r : Route) : State :=
  if names s.routes[r].live p then fullyReselect .standbyChanged (some p) r s else s

/-- A change of a path's standby flag (R120): the copies first, then the full selections, route 0 first. -/
def standbyChanged (p : Path) (flag : Bool) (s : State) : State :=
  allRoutes.foldl (reselectNamed p) (allRoutes.foldl (copyIntoRoute p flag) s)

/-- The installation of a route's pending preload (R122). -/
def installRoute (r : Route) (s : State) : State :=
  let rt := s.routes[r]
  if rt.pending then
    fullyReselect .listApplied none r
      (s.setRouteRec r
        { rt with
          live := rt.preload.map (fun p => ⟨p, s.paths[p].set.standby⟩)
          interval := rt.preloadInterval
          cursor := 0
          countdown := rt.preloadInterval
          pending := false })
  else s

/-- The installation of every pending preload, route 0 first (R122). -/
def installRoutes (s : State) : State := allRoutes.foldl (fun s r => installRoute r s) s

/-! ### Update work (R131, R132) -/

/-- Whether the re-rank switches from a metric to another (R132). -/
def switches (margin : Nat) (active other : Option Nat) : Bool :=
  match active, other with
  | some a, some b => b + margin < a
  | none, some _ => true
  | _, none => false

/-- The re-rank of a SINGLE route (R132). -/
def rerank (r : Route) (s : State) : State :=
  let rt := s.routes[r]
  match rt.chosen.mode, rt.chosen.active with
  | .single, some a =>
    match s.bestUp rt.live false (some a) with
    | some b =>
      if switches s.estimator.switchMargin (s.metricOf a) (s.metricOf b) then
        choose r .rerank none ⟨.single, some b, none⟩ s
      else s
    | none => s
  | _, _ => s

/-- The return from FALLBACK (step 4 of R131). -/
def fallbackReturn (r : Route) (s : State) : State :=
  let rt := s.routes[r]
  if rt.chosen.mode = .fallback ∧ (s.upCandidates rt.live false none).isEmpty = false then
    fullyReselect .fallbackReturn none r s
  else s

/-- Step 5 of R131. -/
def countProbe (r : Route) (s : State) : State :=
  s.setRouteRec r { s.routes[r] with countdown := s.routes[r].countdown - 1 }

/-- The Route Selector's update work on one route, its stats reading apart (steps 2 to 5 of R131). -/
def routeUpdate (r : Route) (s : State) : State :=
  countProbe r (fallbackReturn r (rerank r (installRoute r s)))

/-- The Route Selector's update work, route 0 first (R131). -/
def routesUpdate (s : State) : State := allRoutes.foldl (fun s r => routeUpdate r s) s

/-! ### Targets and probes (R133, R134) -/

/-- A search from the cursor (R134): the first position whose candidate suits, and the position after it. A cursor
beyond the list is taken as 0. -/
def searchFrom (live : List Candidate) (cursor : Nat) (suits : Candidate → Bool) : Option (Path × Nat) :=
  let c := if cursor < live.length then cursor else 0
  let turn := live.zipIdx.drop c ++ live.zipIdx.take c
  match turn.find? (fun x => suits x.1) with
  | some (cand, i) => some (cand.path, if i + 1 < live.length then i + 1 else 0)
  | none => none

/-- The PROBE extra of a route with active `a`, and the route record after the question (R134). -/
def State.probe (s : State) (rt : RouteRecord) (a : Path) : Option Path × RouteRecord :=
  match searchFrom rt.live rt.cursor (fun c => c.path != a && s.paths[c.path].state == .probation) with
  | some (q, next) => (some q, { rt with cursor := next })
  | none =>
    if rt.interval > 0 ∧ rt.countdown = 0 then
      match searchFrom rt.live rt.cursor
          (fun c => c.path != a && (s.paths[c.path].state == .up || s.paths[c.path].state == .fading)) with
      | some (q, next) => (some q, { rt with cursor := next, countdown := rt.interval })
      | none => (none, rt)
    else (none, rt)

/-- The answer to a targets question, and the state after it (R133). No binding is the answer of DARK. -/
def State.targets (s : State) (r : Route) : Option Binding × State :=
  let rt := s.routes[r]
  match rt.chosen.mode, rt.chosen.active with
  | .mirror, some a => (some ⟨a, rt.chosen.secondary.map (fun q => (.mirror, q))⟩, s)
  | .single, some a | .fallback, some a =>
    let (extra, rt') := s.probe rt a
    (some ⟨a, extra.map (fun q => (.probe, q))⟩, s.setRouteRec r rt')
  | _, _ => (none, s)

end Sys2Proof.Machine
end

