-- ==== Sys2Proof/Machine/Health.lean ====
section
/-! DEFINITION. Path health (06_path_health_and_rain_fade.md): the entry changes (R112, R155), a change of state with its
report and reselections (R116), status words (R103 to R107), the status timer (R108), the loss check (R109), the
probation countdown (R110), the far end's verdict (R111) and PATH_ADMIN (R113 to R115, R158). -/

namespace Sys2Proof.Machine

/-! ### A change of state -/

/-- Cause codes of a change of state (R116). -/
inductive PathCause where
  | enabled | adminDisable | forced | fadeLevel | lossFade | downLevel | lockLost | statusTimeout | lossDown | farEnd
  | fadeInProbation | recovered | recoverLevel | probationPassed | cutLine | generated | released | autoRelease
  deriving DecidableEq, Repr

/-- The code of each cause (R116). -/
def PathCause.code : PathCause → Nat
  | .enabled => 1
  | .adminDisable => 2
  | .forced => 3
  | .fadeLevel => 4
  | .lossFade => 5
  | .downLevel => 6
  | .lockLost => 7
  | .statusTimeout => 8
  | .lossDown => 9
  | .farEnd => 10
  | .fadeInProbation => 11
  | .recovered => 12
  | .recoverLevel => 13
  | .probationPassed => 14
  | .cutLine => 15
  | .generated => 16
  | .released => 17
  | .autoRelease => 18

/-- The three counters cleared (R112, R115, R155). -/
def clearCounters (p : PathRecord) : PathRecord := { p with belowFade := 0, belowDown := 0, aboveRecover := 0 }

/-- The changes that go with an entry to a state, at a run time (R112, R84, R155). -/
def entryChanges (run : Nat) (new : Health) (p : PathRecord) : PathRecord :=
  match new with
  | .probation =>
    { clearCounters p with
      countdown := p.hs.probation, timer := some run, est := none, jit := 0, rxCount := 0, rxAge := 0,
      farEpoch := none, nearEpoch := none, expected := none }
  | .down => clearCounters p
  | .fading => { p with aboveRecover := 0 }
  | .disabled => { clearCounters p with timer := none, farEnd := none, countdown := 0 }
  | .cut => { clearCounters p with countdown := 0 }
  | .up => p

/-- Class codes (R118, R182). -/
def PathClass.code : PathClass → Nat
  | .mw => 0
  | .mmw => 1
  | .fibre => 2

/-- The PATH_STATE record of a change (R116, R182), from the record after its entry changes. -/
def State.pathState (s : State) (p : Path) (cause : PathCause) (old : Health) : Report :=
  let rec_ := s.paths[p]
  makeReport .pathState p.val cause.code s.reading p.val
    [u32 old.code, u32 rec_.state.code, u32 rec_.set.cls.code, u32 (bit rec_.set.standby), i32 rec_.lastRsl,
     u32 (bit rec_.lastLock), u32 rec_.lastStep, u32 rec_.updLosses, u32 (bit rec_.farEnd.isSome)]

/-- A path enters a state: its entry changes, its PATH_STATE report, and the reselection of its routes (R112, R116,
R126). -/
def enterState (p : Path) (new : Health) (cause : PathCause) (s : State) : State :=
  let old := s.paths[p].state
  let s := s.setPathRec p { entryChanges s.tb.runNs new s.paths[p] with state := new, lastCause := cause.code }
  reselect p old new (submit (s.pathState p cause old) s)

/-! ### Status words -/

/-- The RSL of a status word, clamped (R81, R103). -/
def statusRsl (w : Word) : Int := clampInt (-1000) 0 (w.extractLsb' 0 16).toInt

/-- The lock of a status word (R81). -/
def statusLock (w : Word) : Bool := w.getLsbD 16

/-- The modulation step of a status word (R81). -/
def statusStep (w : Word) : Nat := field w 17 4

/-- A counter of a run: one more, saturating, or cleared (R103). -/
def runCounter (holds : Bool) (n : Nat) : Nat := if holds then sat8 (n + 1) else 0

/-- Step 1 of R103. -/
def storeStatus (w : Word) (p : PathRecord) : PathRecord :=
  { p with lastRsl := statusRsl w, lastLock := statusLock w, lastStep := statusStep w }

/-- Steps 3 and 4 of R103. -/
def feedCounters (run : Nat) (w : Word) (p : PathRecord) : PathRecord :=
  { p with
    timer := some run
    belowFade := runCounter (statusRsl w < p.hs.fadeLevel || statusStep w < p.hs.minStep) p.belowFade
    belowDown := runCounter (statusRsl w < p.hs.downLevel) p.belowDown
    aboveRecover :=
      runCounter (p.hs.recoverLevel ≤ statusRsl w && statusLock w && p.hs.minStep ≤ statusStep w) p.aboveRecover }

/-- The judgement of a status word by the path's state (R104 to R107); none leaves the state as it is. -/
def judgeStatus (p : PathRecord) : Option (Health × PathCause) :=
  match p.state with
  | .up =>
    if p.lastLock = false then some (.down, .lockLost)
    else if p.hs.nDown ≤ p.belowDown then some (.down, .downLevel)
    else if p.hs.nFade ≤ p.belowFade then some (.fading, .fadeLevel)
    else none
  | .fading =>
    if p.lastLock = false then some (.down, .lockLost)
    else if p.hs.nDown ≤ p.belowDown then some (.down, .downLevel)
    else if p.hs.nRecover ≤ p.aboveRecover ∧ p.lastLosses < p.hs.lossFade then some (.up, .recovered)
    else none
  | .probation =>
    if p.lastLock = false then some (.down, .lockLost)
    else if p.hs.nDown ≤ p.belowDown then some (.down, .downLevel)
    else if p.hs.nFade ≤ p.belowFade then some (.down, .fadeInProbation)
    else none
  | .down => if p.hs.nRecover ≤ p.aboveRecover ∧ p.farEnd = none then some (.probation, .recoverLevel) else none
  | .cut | .disabled => none

/-- A change of state, if there is one. -/
def enterIf (p : Path) (change : Option (Health × PathCause)) (s : State) : State :=
  match change with
  | some (new, cause) => enterState p new cause s
  | none => s

/-- A status word taken for a path (R103). -/
def takeStatusWord (p : Path) (w : Word) (s : State) : State :=
  let stored := storeStatus w s.paths[p]
  if stored.state = .disabled then s.setPathRec p stored
  else
    let fed := feedCounters s.tb.runNs w stored
    enterIf p (judgeStatus fed) (s.setPathRec p fed)

/-- The states an adverse event moves to DOWN (R108, R111, R115). -/
def Health.inService : Health → Bool
  | .up | .fading | .probation => true
  | .disabled | .down | .cut => false

/-- The move of a path in service to DOWN with a cause; a path in any other state stays (R108, R111, R115). -/
def judgeDown (x : PathRecord) (cause : PathCause) : Option (Health × PathCause) :=
  if x.state.inService then some (.down, cause) else none

/-! ### The status timer -/

/-- Milliseconds in nanoseconds. -/
def million : Nat := 1000000

/-- Whether a path's status timer has expired at a run time (R108). -/
def timerExpired (run : Nat) (p : PathRecord) : Bool :=
  match p.timer with
  | some start => start + p.hs.timeout * million ≤ run
  | none => false

/-- The expiry of a path's status timer (R108). -/
def expireTimer (p : Path) (s : State) : State :=
  enterIf p (judgeDown s.paths[p] .statusTimeout) (s.setPathRec p { s.paths[p] with timer := none })

/-! ### Losses, probation and the far end -/

/-- The judgement of the loss check (R109). -/
def judgeLosses (p : PathRecord) : Option (Health × PathCause) :=
  match p.state with
  | .up =>
    if p.hs.lossDown ≤ p.updLosses then some (.down, .lossDown)
    else if p.hs.lossFade ≤ p.updLosses then some (.fading, .lossFade)
    else none
  | .fading | .probation => if p.hs.lossDown ≤ p.updLosses then some (.down, .lossDown) else none
  | .disabled | .down | .cut => none

/-- The loss check of a path (R109). -/
def lossCheck (p : Path) (s : State) : State := enterIf p (judgeLosses s.paths[p]) s

/-- Whether a path has passed its probation (R110). -/
def probationPassed (e : Estimator) (x : PathRecord) : Bool := x.hs.minSamples ≤ x.rxCount || txFresh e x

/-- The judgement at the end of the probation countdown (R110). -/
def judgeProbation (p : Path) (s : State) : State :=
  if probationPassed s.estimator s.paths[p] then enterState p .up .probationPassed s
  else s.setPathRec p { s.paths[p] with countdown := s.paths[p].hs.probation }

/-- One update event off a path's probation countdown (R110). -/
def countDown (p : Path) (s : State) : State :=
  s.setPathRec p { s.paths[p] with countdown := s.paths[p].countdown - 1 }

/-- The probation countdown of a path at an update event (R110). -/
def countProbation (p : Path) (s : State) : State :=
  if s.paths[p].state = .probation then
    if s.paths[p].countdown ≤ 1 then judgeProbation p (countDown p s) else countDown p s
  else s

/-- A far-end condition of this age lapses (R111). -/
def lapses (e : Estimator) (age : Nat) : Bool := e.reportStale < age || 255 ≤ age

/-- The far-end condition after a lapse, if it lapses (R111). -/
def lapse (e : Estimator) (cond : Option Nat) : Option Nat :=
  match cond with
  | some age => if lapses e age then none else some age
  | none => none

/-- The ageing and lapse of a path's far-end condition at an update event (R111). -/
def ageFarEnd (p : Path) (s : State) : State :=
  s.setPathRec p
    { s.paths[p] with farEnd := lapse s.estimator (s.paths[p].farEnd.map (fun age => sat8 (age + 1))) }

/-- The far-end condition after a report-back word's health field: codes 4 to 7 set it, 1 to 3 clear it, 0 leaves it
(R111). -/
def farEndAfter (code : Nat) (cond : Option Nat) : Option Nat :=
  if 4 ≤ code then some 0 else if code = 0 then cond else none

/-- The effect of a report-back word's health field (R111): its condition, and the move to DOWN. -/
def takeFarEnd (p : Path) (code : Nat) (s : State) : State :=
  enterIf p (if 4 ≤ code then judgeDown s.paths[p] .farEnd else none)
    (s.setPathRec p { s.paths[p] with farEnd := farEndAfter code s.paths[p].farEnd })

/-- The losses roll over and the two views age (steps 2 to 4 of R93). -/
def rollPeriod (x : PathRecord) : PathRecord :=
  { x with
    lastLosses := x.updLosses
    updLosses := 0
    rxAge := if x.est.isSome then sat8 (x.rxAge + 1) else x.rxAge
    tx := x.tx.map (fun v => { v with age := sat8 (v.age + 1) }) }

/-- The losses and the views of a path at an update event (steps 2 to 4 of R93). -/
def rollPath (p : Path) (s : State) : State := s.setPathRec p (rollPeriod s.paths[p])

/-- The Path Monitor's update work on one path (R93, R109, R110, R111). -/
def monitorUpdate (p : Path) (s : State) : State := rollPath p (ageFarEnd p (countProbation p (lossCheck p s)))

/-! ### PATH_ADMIN and the cut -/

/-- ENABLE (R113, R156). -/
def judgeEnable (line : Bool) (x : PathRecord) : Option (Health × PathCause) :=
  if x.state = .disabled then some (if x.set.cutEnable && line then .cut else .probation, .enabled) else none

/-- ENABLE (R113, R156). -/
def enablePath (p : Path) (s : State) : State := enterIf p (judgeEnable s.cut.level s.paths[p]) s

/-- DISABLE (R114). -/
def disablePath (p : Path) (s : State) : State :=
  enterIf p (if s.paths[p].state = .disabled then none else some (.disabled, .adminDisable)) s

/-- FORCE_DOWN (R115): a path in service goes DOWN, a DOWN path has its counters cleared. -/
def forceDown (p : Path) (s : State) : State :=
  if s.paths[p].state = .down then s.setPathRec p (clearCounters s.paths[p])
  else enterIf p (judgeDown s.paths[p] .forced) s

/-- RELEASE_CUT's status (R158). -/
def releaseStatus (line : Bool) (x : PathRecord) : Status := if x.state = .cut ∧ line = true then .lineActive else .done

/-- RELEASE_CUT (R158). -/
def releaseCut (p : Path) (s : State) : State :=
  enterIf p (if s.paths[p].state = .cut ∧ s.cut.level = false then some (.probation, .released) else none) s

/-- What a cut event makes of a path (R154). -/
def judgeCut (cause : PathCause) (x : PathRecord) : Option (Health × PathCause) :=
  if x.set.cutEnable = true ∧ x.state ≠ .cut ∧ x.state ≠ .disabled then some (.cut, cause) else none

/-- A cut event on one path (R154). -/
def cutPath (cause : PathCause) (p : Path) (s : State) : State := enterIf p (judgeCut cause s.paths[p]) s

/-- A cut event, paths 0 to 7 in turn (R154). -/
def cutEvent (cause : PathCause) (s : State) : State := allPaths.foldl (fun s p => cutPath cause p s) s

/-- The automatic release of one path (R159). -/
def releasePath (p : Path) (s : State) : State :=
  enterIf p
    (if s.paths[p].state = .cut ∧ s.paths[p].set.autoRelease = true then some (.probation, .autoRelease) else none) s

/-- The automatic release of an update event (R159). -/
def autoRelease (s : State) : State :=
  if s.cut.level then s else allPaths.foldl (fun s p => releasePath p s) s

end Sys2Proof.Machine
end

