-- ==== Sys2Proof/Machine/Merger.lean ====
section
/-! DEFINITION. The Arrival Merger (08_arrival_merging.md): the distance of a delivery (R141), the start of a window and
the five cases (R142 to R148), what a delivery hands its path (R150), and the resync report (R151). -/

namespace Sys2Proof.Machine

/-- What a delivery earns its path (R150). -/
inductive Handed where
  | win
  | late (margin : Int)
  | nothing
  deriving DecidableEq, Repr

/-- The dup verdict (R141): 0 for a delivery that wins, 1 for every other. -/
def Handed.dup : Handed → Bool
  | .win => false
  | .late _ | .nothing => true

/-- The distance of sequence `s` from N, from −2^23 to 2^23 − 1 (R141). -/
def distance (n s : BitVec 24) : Int := (s - n).toInt

/-- The record of a first copy: seen, with the arrival reading and the winning path. -/
def firstArrival (r : Reading) (p : Path) : Arrival := ⟨true, r.time.sec, r.time.ns, p, false⟩

/-- A table with the newest record seen and every other unseen (R142, R148). -/
def freshTable (a : Arrival) : List Arrival := List.replicate 63 unseen ++ [a]

/-- A table moved forward by `d`, at least 1, with the new newest record (R143). -/
def advanceTable (t : List Arrival) (d : Nat) (a : Arrival) : List Arrival :=
  t.drop (min d 64) ++ List.replicate (min d 64 - 1) unseen ++ [a]

/-- The race margin: a reading less the first-arrival time, clamped (step 1 of R145). -/
def raceMargin (r : Reading) (a : Arrival) : Int :=
  clampInt (-2147483648) 2147483647
    (((r.time.sec.toNat : Int) - a.sec.toNat) * billion + ((r.time.ns : Int) - a.ns))

/-- The start of a window (R142). -/
def MergeRecord.start (m : MergeRecord) (s : BitVec 24) (r : Reading) (p : Path) : MergeRecord :=
  { m with tracking := true, newest := s, table := freshTable (firstArrival r p), staleRun := 0 }

/-- An advance (R143). -/
def MergeRecord.advance (m : MergeRecord) (s : BitVec 24) (r : Reading) (p : Path) : MergeRecord :=
  { m with
    newest := s
    table := advanceTable m.table (distance m.newest s).toNat (firstArrival r p)
    staleRun := 0 }

/-- The place of sequence `s` in the table, for a distance from −63 to 0 (R139). -/
def MergeRecord.place (m : MergeRecord) (s : BitVec 24) : Nat := (63 + distance m.newest s).toNat

/-- A delivery inside the window: late first, late copy or repeat (R144, R145, R146). -/
def MergeRecord.inside (m : MergeRecord) (s : BitVec 24) (r : Reading) (p : Path) : MergeRecord × Handed :=
  let i := m.place s
  let a := m.table.getD i unseen
  if a.seen = false then ({ m with table := m.table.set i (firstArrival r p) }, .win)
  else if a.late = false then ({ m with table := m.table.set i { a with late := true } }, .late (raceMargin r a))
  else ({ m with repeats := sat16 (m.repeats + 1) }, .nothing)

/-- Whether a stale delivery causes a resync (R147). -/
def MergeRecord.resyncs? (m : MergeRecord) : Bool := m.resyncCount ≤ sat8 (m.staleRun + 1)

/-- A stale delivery, with the resync it may cause (R147, R148). -/
def MergeRecord.behind (m : MergeRecord) (s : BitVec 24) (r : Reading) (p : Path) : MergeRecord × Handed :=
  let m' := { m with stale := sat32 (m.stale + 1), staleRun := sat8 (m.staleRun + 1) }
  if m.resyncs? then ({ m'.start s r p with resyncs := sat32 (m.resyncs + 1) }, .win) else (m', .nothing)

/-- A delivery on a merger record: the record after it, and what its path is handed (R140, R141). -/
def MergeRecord.take (m : MergeRecord) (s : BitVec 24) (r : Reading) (p : Path) : MergeRecord × Handed :=
  if m.tracking = false then (m.start s r p, .win)
  else if 1 ≤ distance m.newest s then (m.advance s r p, .win)
  else if -63 ≤ distance m.newest s then m.inside s r p
  else m.behind s r p

/-- Whether a delivery is a resync (R148). -/
def MergeRecord.isResync (m : MergeRecord) (s : BitVec 24) : Bool :=
  m.tracking && decide (distance m.newest s ≤ -64) && m.resyncs?

/-- The bounds of the race margin sum: 64 bits, signed (R98). -/
def clampSum (n : Int) : Int := clampInt (-9223372036854775808) 9223372036854775807 n

/-- What a delivery hands its path's period counts (R150, R98). -/
def handedCounts (h : Handed) (c : PathCounts) : PathCounts :=
  match h with
  | .win => { c with wins := sat32 (c.wins + 1) }
  | .late m => { c with lateCopies := sat32 (c.lateCopies + 1), marginSum := clampSum (c.marginSum + m) }
  | .nothing => c

/-- The ROUTE_RESYNC record of a resync from `old` to `new` (R151, R182). -/
def resyncReport (r : Route) (old new : MergeRecord) (p : Path) (rd : Reading) : Report :=
  makeReport .routeResync r.val 1 rd p.val
    [u32 old.newest.toNat, u32 new.newest.toNat, u32 p.val, u32 new.resyncCount, u32 new.stale]

/-- A delivery to the Arrival Merger (R140): its verdict is `(s.verdict …)`, its effects these. -/
def deliverMerger (r : Route) (seq : BitVec 24) (p : Path) (rd : Reading) (s : State) : State :=
  let m := s.mergers[r]
  let (m', h) := m.take seq rd p
  let s := countPath p (handedCounts h) (s.setMerger r m')
  if m.isResync seq then submit (resyncReport r m m' p rd) s else s

/-- The dup verdict of a delivery (R140, R141). -/
def State.verdict (s : State) (r : Route) (seq : BitVec 24) (p : Path) (rd : Reading) : Bool :=
  (s.mergers[r].take seq rd p).2.dup

end Sys2Proof.Machine
end

