-- ==== Sys2Proof/Machine/Stamps.lean ====
section
/-! DEFINITION. The Stamp Unit (04_stamps_and_slot_words.md): departure processing (R67 to R72) and arrival processing
(R73 to R78). -/

namespace Sys2Proof.Machine

/-! ### Departure processing -/

/-- A slot word of a read under departure processing, in the modem's view (R64). -/
def slotWord (d : Departure) (ws : List Word) (w : Nat) : Option Word :=
  if d.firstWord ≤ w then ws[w - d.firstWord]? else none

/-- The read data with a slot word replaced, where the read covers it. -/
def putSlotWord (d : Departure) (w : Nat) (v : Word) (ws : List Word) : List Word :=
  if d.firstWord ≤ w then ws.set (w - d.firstWord) v else ws

/-- A commit word with ready forced to 0 (R68). -/
def clearReady (w : Word) : Word := setField w 16 1 0

/-- How a read under departure processing ends (R68, R69, R72): blanked for cut, expired, or let through, with a
departure stamp or not and with a dwell sample or not. -/
inductive Outcome where
  | blanked
  | expired
  | passed (departure : Bool) (dwell : Option Nat)
  deriving DecidableEq, Repr

/-- Whether the commit word returns with ready = 1. -/
def commitReady (d : Departure) (ws : List Word) : Bool :=
  match slotWord d ws 0 with
  | some w => readyBit w
  | none => false

/-- The read is blanked for cut (R68). -/
def blankedForCut (d : Departure) (ws : List Word) : Bool :=
  d.health == .cut && d.behaviour == .blank && commitReady d ws

/-- The wait of a read that covers word 1 (R69). -/
def waitOf (d : Departure) (ws : List Word) : Option Int := (slotWord d ws 1).map (sinceStamp d.reading)

/-- The read is expired, blanking apart (R69). -/
def expiredRead (d : Departure) (ws : List Word) : Bool :=
  commitReady d ws &&
    (match waitOf d ws with
     | some wait => decide ((d.maxDwell : Int) < wait)
     | none => false)

/-- The outcome of a read under departure processing (R68, R69, R72). -/
def departureOutcome (d : Departure) (ws : List Word) : Outcome :=
  if blankedForCut d ws then .blanked
  else if expiredRead d ws then .expired
  else
    .passed (slotWord d ws 2).isSome
      (match slotWord d ws 2, waitOf d ws with
       | some _, some wait => some (clampInt 0 4294967295 wait).toNat
       | _, _ => none)

/-- The departure stamp (R70). -/
def departureStamp (d : Departure) : Word :=
  stampWord { d.reading with time := d.reading.time.later d.txLead } d.path.val

/-- The data a read under departure processing returns, in the modem's view (R68 to R71). -/
def departureData (d : Departure) (ws : List Word) : List Word :=
  match departureOutcome d ws with
  | .blanked | .expired =>
    (match slotWord d ws 0 with
     | some w => putSlotWord d 0 (clearReady w) ws
     | none => ws)
  | .passed _ _ => putSlotWord d 3 d.reportBack (putSlotWord d 2 (departureStamp d) ws)

/-- What a completed read under departure processing hands its path's period counts (R72, R98). -/
def outcomeCounts (o : Outcome) (c : PathCounts) : PathCounts :=
  match o with
  | .blanked => { c with blanked := sat32 (c.blanked + 1) }
  | .expired => { c with expired := sat32 (c.expired + 1) }
  | .passed departure dwell =>
    let c := if departure then { c with departures := sat32 (c.departures + 1) } else c
    match dwell with
    | some n =>
      { c with
        dwellSum := saturate 18446744073709551615 (c.dwellSum + n)
        dwellCount := sat32 (c.dwellCount + 1)
        dwellMax := max c.dwellMax n }
    | none => c

/-! ### Arrival processing -/

/-- A record of a pending-arrival list with the words a write covers (R74). -/
def fillArrival (word2 word3 : Option Word) (a : PendingArrival) : PendingArrival :=
  { a with word2 := word2.or a.word2, word3 := word3.or a.word3 }

/-- Words 2 and 3 of a write that is not a receive commit placed in a path's pending-arrival list (R74). -/
def placeArrival (p : Path) (slot : Nat) (word2 word3 : Option Word) (s : State) : State :=
  let list := s.arrivals[p]
  if word2.isNone ∧ word3.isNone then s
  else if list.any (fun a => a.slot == slot) then
    s.setArrivals p (list.map (fun a => if a.slot = slot then fillArrival word2 word3 a else a))
  else if list.length < Config.slotRecords then s.setArrivals p (list ++ [⟨slot, word2, word3⟩])
  else
    { s with
      arrivals := s.arrivals.set p (list.drop 1 ++ [⟨slot, word2, word3⟩]) p.isLt
      overflows := s.overflows.set p (sat16 (s.overflows[p] + 1)) p.isLt }

/-- The value a pending-arrival record holds for a word, when there is a record for the slot (R76). -/
def pendingWord (list : List PendingArrival) (slot : Nat) (get : PendingArrival → Option Word) : Option Word :=
  match list.find? (fun a => a.slot == slot) with
  | some a => get a
  | none => none

/-- What a receive commit hands on: its slot, its words and its reading (R75 to R78). -/
structure ArrivalCommit where
  path : Path
  slot : Nat
  commit : Word
  word2 : Option Word
  word3 : Option Word
  reading : Reading
  deriving DecidableEq, Repr

/-- The route field of a commit word (R80). -/
def commitRoute (w : Word) : Route := ⟨field w 19 2 % 4, Nat.mod_lt _ (by decide)⟩

/-- The path sequence field of a commit word (R80). -/
def commitPathSeq (w : Word) : BitVec 16 := w.extractLsb' 24 16

/-- The route sequence field of a commit word (R80). -/
def commitRouteSeq (w : Word) : BitVec 24 := w.extractLsb' 40 24

/-- The delay sample, or the missing-stamp indication (R77, R87). -/
def deliverSample (p : Path) (word2 : Option Word) (r : Reading) (s : State) : State :=
  s.setPathRec p
    (match word2 with
     | some w => takeSample s.estimator w r s.paths[p]
     | none => countDiscard s.paths[p])

/-- The report-back word, when present (R77, R94, R111). -/
def deliverReportBack (p : Path) (word3 : Option Word) (s : State) : State :=
  match word3 with
  | some w => takeFarEnd p (field w 54 3) (s.setPathRec p (takeReportBack w s.paths[p]))
  | none => s

/-- The path sequence (R77, R90). -/
def deliverSequence (p : Path) (seq : BitVec 16) (s : State) : State := s.setPathRec p (takeSequence seq s.paths[p])

/-- The delivery to the Path Monitor (R77, R85): the sample or the missing-stamp indication, the report-back word, the
path sequence, in the order R77 lists them (log 31). -/
def deliverMonitor (c : ArrivalCommit) (s : State) : State :=
  deliverSequence c.path (commitPathSeq c.commit)
    (deliverReportBack c.path c.word3 (deliverSample c.path c.word2 c.reading s))

/-- The delivery to the Arrival Merger (R78). -/
def deliverArrival (c : ArrivalCommit) (s : State) : State :=
  deliverMerger (commitRoute c.commit) (commitRouteSeq c.commit) c.path c.reading s

/-- Both deliveries, in the order of a free choice: the manual leaves it open (R77, R78). -/
def deliverBoth (monitorFirst : Bool) (c : ArrivalCommit) (s : State) : State :=
  if monitorFirst then deliverArrival c (deliverMonitor c s) else deliverMonitor c (deliverArrival c s)

/-- The dup verdict of a receive commit (R78). -/
def State.commitVerdict (s : State) (c : ArrivalCommit) : Bool :=
  s.verdict (commitRoute c.commit) (commitRouteSeq c.commit) c.path c.reading

end Sys2Proof.Machine
end

