-- ==== Sys2Proof/Machine/Steering.lean ====
section
/-! DEFINITION. The Steering Unit (02_write_queue_and_slot_binding.md): opening and eviction (R23, R24), payload writes and
commits (R21, R22, R25, R27 to R31), the discards (R13, R26), and where a route window read goes (R13). -/

namespace Sys2Proof.Machine

/-! ### Offers of the Agent Port -/

/-- An offer joins those that wait at the Write Queue's arbiter, as the youngest (R36). -/
def presentOffer (src : OfferSource) (ws : List MemWrite) (s : State) : State :=
  { s with offers := s.offers ++ [⟨src, ws⟩] }

/-- An agent's write is offered with all its copies and injected words (R2). -/
def offerWrites (tag : Tag) (acks managed : Bool) (ws : List MemWrite) (s : State) : State :=
  presentOffer (.agent tag acks managed) ws s

/-- A write is acknowledged, unless it is the first half of a split write (R2, R4). -/
def ackIf (tag : Tag) (acks : Bool) (s : State) : State := if acks then emit (.ack tag) s else s

/-! ### Slots -/

/-- A request on a route: the route, the offset in the route window, the window's swap flag, the agent, the beats and
whether the write is acknowledged with it (R13, R21). -/
structure RouteWrite where
  route : Route
  offset : Nat
  swap : Bool
  tag : Tag
  beats : List Beat
  acks : Bool
  deriving DecidableEq, Repr

/-- The slot index of a route window offset (R13). -/
def State.slotOf (s : State) (offset : Nat) : Nat := offset / s.layout.slot

/-- The slot offset of a window offset (R13, R64). -/
def State.slotOffset (s : State) (offset : Nat) : Nat := offset % s.layout.slot

/-- The record of a slot on a route's open-slot list. -/
def State.openSlot (s : State) (r : Route) (slot : Nat) : Option OpenSlot :=
  s.steer[r].openSlots.find? (fun o => o.slot == slot)

/-- The eviction of a record already taken off its list: counted and reported ABANDONED (R24). -/
def abandon (r : Route) (o : OpenSlot) (s : State) : State :=
  slotEvent 1 r o.slot (some o.binding) o.opened 255
    (s.setSteer r { s.steer[r] with abandoned := sat32 (s.steer[r].abandoned + 1) })

/-- Room is made on a full list by evicting its oldest record (R23). -/
def makeRoom (r : Route) (s : State) : State :=
  match s.steer[r].openSlots with
  | o :: rest =>
    if rest.length + 1 < Config.slotRecords then s
    else abandon r o (s.setSteer r { s.steer[r] with openSlots := rest })
  | [] => s

/-- A slot opens with a binding (R23). -/
def openNew (r : Route) (slot : Nat) (b : Binding) (s : State) : State :=
  let s := makeRoom r s
  s.setSteer r { s.steer[r] with openSlots := s.steer[r].openSlots ++ [⟨slot, b, s.tb.time⟩] }

/-- A slot leaves its list at its commit (R27). -/
def closeSlot (r : Route) (slot : Nat) (s : State) : State :=
  s.setSteer r { s.steer[r] with openSlots := s.steer[r].openSlots.filter (fun o => o.slot != slot) }

/-- Every open-slot list is emptied, oldest first, route 0 to 3, each record abandoned (R20). -/
def abandonAll (s : State) : State :=
  allRoutes.foldl
    (fun s r =>
      s.steer[r].openSlots.foldl (fun s o => abandon r o s) (s.setSteer r { s.steer[r] with openSlots := [] }))
    s

/-! ### Discards -/

/-- A dark discard (R26): counted, reported once an update period, acknowledged. -/
def darkDiscard (w : RouteWrite) (s : State) : State :=
  let st := s.steer[w.route]
  let s := s.setSteer w.route { st with darkDiscards := sat32 (st.darkDiscards + 1), darkReported := true }
  let s := if st.darkReported then s else slotEvent 2 w.route (s.slotOf w.offset) none ⟨0, 0, 0⟩ w.tag.val s
  ackIf w.tag w.acks s

/-- A write to a route window by an agent that is not a FRAME_ENGINE (R13). -/
def discardRole (w : RouteWrite) (s : State) : State :=
  let st := s.steer[w.route]
  let s := s.setSteer w.route { st with roleDiscards := sat16 (st.roleDiscards + 1) }
  ackIf w.tag w.acks (slotEvent 3 w.route (s.slotOf w.offset) none ⟨0, 0, 0⟩ w.tag.val s)

/-! ### Payload writes -/

/-- Ready forced to 0 where a payload write enables its byte of word 0 (R22). -/
def forceReady (off : Nat) (beats : List Beat) : List Beat :=
  match off / 8, beats with
  | 0, b :: bs => (if b.en.getLsbD 2 then { b with data := clearReady b.data } else b) :: bs
  | _, bs => bs

/-- One copy of a route window write on a path (R19, R30). -/
def State.copyWrite (s : State) (w : RouteWrite) (q : Path) (beats : List Beat) : MemWrite :=
  ⟨s.copyAddr q w.route w.offset, beats.map (swapBeat w.swap), .agent w.tag⟩

/-- The copies of a payload write, primary first (R22, R30). -/
def State.payloadCopies (s : State) (w : RouteWrite) (b : Binding) : List MemWrite :=
  let beats := forceReady (s.slotOffset w.offset) w.beats
  s.copyWrite w b.primary beats ::
    (match b.extra with
     | some (_, q) => [s.copyWrite w q beats]
     | none => [])

/-- A payload write (R23, R25). -/
def steerPayload (w : RouteWrite) (s : State) : State :=
  match s.openSlot w.route (s.slotOf w.offset) with
  | some o => offerWrites w.tag w.acks false (s.payloadCopies w o.binding) s
  | none =>
    match s.targets w.route with
    | (some b, s') =>
      offerWrites w.tag w.acks false (s'.payloadCopies w b) (openNew w.route (s'.slotOf w.offset) b s')
    | (none, s') => darkDiscard w s'

/-! ### Commits -/

/-- The commit word of one copy (R28). -/
def commitWord (word : Word) (r : Route) (q : Path) (pathSeq : BitVec 16) (routeSeq : BitVec 24) (mirrored : Bool) : Word :=
  setField (setField (setField (setField (setField (setField word 19 2 r.val) 21 3 q.val) 24 16 pathSeq.toNat)
    40 24 routeSeq.toNat) 18 1 (bit mirrored)) 17 1 0

/-- The ingress stamp of a copy: a single-beat write to word 1 of the copy's slot (R66). -/
def State.ingressWrite (s : State) (w : RouteWrite) (q : Path) : MemWrite :=
  ⟨s.copyAddr q w.route (s.slotOf w.offset * s.layout.slot + 8),
    [swapBeat w.swap ⟨stampWord s.reading q.val, allEnables⟩], .agent w.tag⟩

/-- One copy of a commit: its ingress stamp, then the copy with its commit word and word 1 replaced (R28, R30). -/
def State.commitCopy (s : State) (w : RouteWrite) (word : Word) (routeSeq : BitVec 24) (mirrored : Bool) (q : Path) :
    List MemWrite :=
  let off := s.slotOffset w.offset
  [s.ingressWrite w q,
   s.copyWrite w q
    (replaceWord off
      (replaceWord off w.beats 0 (commitWord word w.route q s.pathSeq[q] routeSeq mirrored))
      1 (stampWord s.reading q.val))]

/-- A path's transmit sequence advances by one (R27). -/
def advancePathSeq (q : Path) (s : State) : State :=
  { s with pathSeq := s.pathSeq.set q (s.pathSeq[q] + 1) q.isLt }

/-- One more commit copy of a path (R31). -/
def countCommit (probe : Bool) (q : Path) (s : State) : State :=
  countPath q
    (fun c =>
      { c with
        commits := sat32 (c.commits + 1)
        probes := if probe then sat32 (c.probes + 1) else c.probes })
    s

/-- The route's counts and sequence at a commit (R27, R31). -/
def countRouteCommit (r : Route) (b : Binding) (s : State) : State :=
  let st := s.steer[r]
  s.setSteer r
    { st with
      seq := st.seq + 1
      commits := sat32 (st.commits + 1)
      mirrored := (match b.extra with | some (.mirror, _) => sat32 (st.mirrored + 1) | _ => st.mirrored) }

/-- A commit bound to its paths: numbered, stamped, counted and offered (R27 to R31, R66). -/
def commitFrame (w : RouteWrite) (word : Word) (b : Binding) (s : State) : State :=
  let seq := s.steer[w.route].seq
  let s := countRouteCommit w.route b s
  let first := s.commitCopy w word seq b.extra.isSome b.primary
  let s := countCommit false b.primary (advancePathSeq b.primary s)
  match b.extra with
  | some (kind, q) =>
    let second := s.commitCopy w word seq true q
    offerWrites w.tag w.acks false (first ++ second) (countCommit (kind == .probe) q (advancePathSeq q s))
  | none => offerWrites w.tag w.acks false first s

/-- A commit (R27, R29). -/
def steerCommit (w : RouteWrite) (word : Word) (s : State) : State :=
  match s.openSlot w.route (s.slotOf w.offset) with
  | some o => commitFrame w word o.binding (closeSlot w.route (s.slotOf w.offset) s)
  | none =>
    match s.targets w.route with
    | (some b, s') => commitFrame w word b s'
    | (none, s') => darkDiscard w s'

/-- A frame engine write to a route window (R21). -/
def steerWrite (w : RouteWrite) (s : State) : State :=
  match coveredWord (s.slotOffset w.offset) w.beats 0 with
  | some word => if readyBit word then steerCommit w word s else steerPayload w s
  | none => steerPayload w s

/-- The path a route window read goes to; none answers zeros (R13). A slot still listed while its route is in DARK is read from
its primary path, as R13's bullet for an open slot says, not answered with zeros, as its bullet for DARK says (DEDUCED,
log 38). -/
def State.slotReadPath (s : State) (r : Route) (slot : Nat) : Option Path :=
  match s.openSlot r slot with
  | some o => some o.binding.primary
  | none => s.routes[r].chosen.active

end Sys2Proof.Machine
end

