-- ==== Sys2Proof/Machine/Ports.lean ====
section
/-! DEFINITION. The Agent Port and the Window Decoder (01_requests_agents_and_windows.md): acceptance of writes (R7, R10,
R12 to R15, R73 to R78) and of reads (R3, R13, R38, R67), the return of read data (R3, R17, R72), and the port's
waiting requests (R2, R4). -/

namespace Sys2Proof.Machine

/-! ### Writes -/

/-- A write translated and nothing more (R12, R16). -/
def State.translated (s : State) (w : Window) (offset : Nat) (tag : Tag) (beats : List Beat) : MemWrite :=
  ⟨translate (s.windowBase w) offset, beats.map (swapBeat w.swap), .agent tag⟩

/-- The status word a write to a STATUS window carries, if it is snooped: its path and its value (R15). -/
def State.snooped (s : State) (offset : Nat) (tag : Tag) (beats : List Beat) : Option (Path × Word) :=
  let a := s.agents[tag]
  if a.role = .modem then (coveredWord offset beats (8 * a.path.val)).map (fun w => (a.path, w)) else none

/-- The status word is taken, if the write carries one (R15, R103). -/
def snoopStatus (offset : Nat) (tag : Tag) (beats : List Beat) (s : State) : State :=
  match s.snooped offset tag beats with
  | some (p, w) => takeStatusWord p w s
  | none => s

/-- What a receive commit of slot `slot` at slot offset `off` gathers (R75, R76). -/
def State.gather (s : State) (p : Path) (slot off : Nat) (word : Word) (beats : List Beat) : ArrivalCommit :=
  { path := p, slot := slot, commit := word,
    word2 := (coveredWord off beats 2).or (pendingWord s.arrivals[p] slot PendingArrival.word2)
    word3 := (coveredWord off beats 3).or (pendingWord s.arrivals[p] slot PendingArrival.word3)
    reading := s.reading }

/-- The two writes of a receive commit: the arrival stamp to word 4, then the commit with its dup and word 4 (R75,
R78). -/
def State.commitWrites (s : State) (w : Window) (offset : Nat) (tag : Tag) (beats : List Beat) (c : ArrivalCommit) :
    List MemWrite :=
  let off := s.slotOffset offset
  let stamp := stampWord c.reading c.path.val
  let data :=
    replaceWord off (replaceWord off beats 0 (setField c.commit 17 1 (bit (s.commitVerdict c)))) 4 stamp
  [⟨translate (s.windowBase w) (c.slot * s.layout.slot + 32), [swapBeat w.swap ⟨stamp, allEnables⟩], .agent tag⟩,
   s.translated w offset tag data]

/-- A receive commit (R75 to R78), with the order of its two deliveries given. -/
def receiveCommit (monitorFirst : Bool) (w : Window) (offset : Nat) (tag : Tag) (beats : List Beat) (word : Word)
    (acks : Bool) (s : State) : State :=
  let p := w.path
  let slot := s.slotOf offset
  let c := s.gather p slot (s.slotOffset offset) word beats
  let writes := s.commitWrites w offset tag beats c
  let s := s.setArrivals p (s.arrivals[p].filter (fun a => a.slot != slot))
  offerWrites tag acks false writes (deliverBoth monitorFirst c s)

/-- A write by a path's modem to its PATH_RX window (R73). -/
def arrivalWrite (w : Window) (offset : Nat) (tag : Tag) (beats : List Beat) (acks : Bool) (s : State) : State :=
  let off := s.slotOffset offset
  match coveredWord off beats 0 with
  | some word =>
    if readyBit word then
      receiveCommit (Config.monitorFirst s.choice) w offset tag beats word acks { s with choice := s.choice + 1 }
    else
      offerWrites tag acks false [s.translated w offset tag beats]
        (placeArrival w.path (s.slotOf offset) (coveredWord off beats 2) (coveredWord off beats 3) s)
  | none =>
    offerWrites tag acks false [s.translated w offset tag beats]
      (placeArrival w.path (s.slotOf offset) (coveredWord off beats 2) (coveredWord off beats 3) s)

/-- The acceptance of a write (R1, R7, R9). -/
def acceptWrite (w : WriteReq) (acks : Bool) (s : State) : State :=
  match s.classify w.addr with
  | .page _ =>
    offerWrites w.tag acks (s.agents[w.tag].role == .management) [⟨w.addr, w.beats, .agent w.tag⟩] s
  | .through => offerWrites w.tag acks false [⟨w.addr, w.beats, .agent w.tag⟩] s
  | .window win offset =>
    match win.kind with
    | .routeTx =>
      let rw : RouteWrite := ⟨win.route, offset, win.swap, w.tag, w.beats, acks⟩
      if s.agents[w.tag].role = .frameEngine then steerWrite rw s else discardRole rw s
    | .pathRx =>
      if s.isModemOf w.tag win.path then arrivalWrite win offset w.tag w.beats acks s
      else offerWrites w.tag acks false [s.translated win offset w.tag w.beats] s
    | .status =>
      offerWrites w.tag acks false [s.translated win offset w.tag w.beats] (snoopStatus offset w.tag w.beats s)
    | .pathTx | .plain => offerWrites w.tag acks false [s.translated win offset w.tag w.beats] s

/-! ### The return of read data -/

/-- The data beats of an answer in the agent's view, before substitution (R16). -/
def ReadRec.view (r : ReadRec) (words : ReadWords) : List Word :=
  (words.toList.take r.count).map (fun w => if r.swap then swapBytes w else w)

/-- The data a read returns to its agent (R3, R17, R68 to R71). -/
def ReadRec.data (r : ReadRec) (words : ReadWords) (error : Bool) : List Word :=
  match r.departure with
  | some d => if error then r.view words else departureData d (r.view words)
  | none => r.view words

/-- The beats of a read go back to its agent, the last one marked (R3, R4). -/
def emitBeats (tag : Tag) (error last : Bool) : List Word → State → State
  | [], s => s
  | [w], s => emit (.readBeat tag w error last) s
  | w :: v :: ws, s => emitBeats tag error last (v :: ws) (emit (.readBeat tag w error false) s)

/-- A read returns: its beats, then the counts of departure processing (R3, R72). -/
def completeRead (r : ReadRec) (words : ReadWords) (error : Bool) (s : State) : State :=
  let s := emitBeats r.tag error r.last (r.data words error) s
  match r.departure with
  | some d => if error then s else countPath d.path (outcomeCounts (departureOutcome d (r.view words))) s
  | none => s

/-- The oldest accepted reads return while they have their data (R3). -/
def returnReads : List ReadRec → State → State
  | [], s => { s with reads := [] }
  | r :: rs, s =>
    match r.answer with
    | some (words, error) => returnReads rs (completeRead r words error s)
    | none => { s with reads := r :: rs }

/-- Data goes back to the agents in the order the reads were accepted (R3). -/
def deliverReads (s : State) : State := returnReads s.reads s

/-! ### Reads -/

/-- Whether a read will read a word that a write has a beat in (R38). -/
def overlaps (r : MemRead) (w : MemWrite) : Bool :=
  (List.range r.enables.length).any (fun i =>
    (List.range w.beats.length).any (fun j =>
      wordAligned r.addr + BitVec.ofNat 32 (8 * i) == wordAligned w.addr + BitVec.ofNat 32 (8 * j)))

/-- The drains after which no overlapping write is left in the queue (R38). -/
def drainsFor (r : MemRead) : List MemWrite → Nat
  | [] => 0
  | w :: ws =>
    let later := drainsFor r ws
    if 0 < later then later + 1 else if overlaps r w then 1 else 0

/-- A read on its way to the Memory Port: ready, or waiting for so many drains (R38). -/
def queueRead (m : MemRead) (drains : Nat) (s : State) : State :=
  if drains = 0 then { s with readReady := s.readReady ++ [m] } else { s with readWait := s.readWait ++ [(m, drains)] }

/-- An accepted read takes its place in the return order and goes to memory, its byte enables in memory's view (R3, R16,
R38). -/
def issueLater (tag : Tag) (addr : Addr) (enables : List (BitVec 8)) (swap last : Bool) (d : Option Departure)
    (s : State) : State :=
  let m : MemRead := ⟨.agent s.nextRead, addr, enables.map (swapEnable swap)⟩
  queueRead m (drainsFor m s.queue)
    { s with
      nextRead := s.nextRead + 1
      reads := s.reads ++ [⟨s.nextRead, tag, enables.length, swap, last, d, none⟩] }

/-- A read answered with zeros, in its place of the return order (R3, R13). -/
def answerZeros (tag : Tag) (count : Nat) (swap last : Bool) (s : State) : State :=
  deliverReads
    { s with
      nextRead := s.nextRead + 1
      reads := s.reads ++ [⟨s.nextRead, tag, count, swap, last, none, some (Vector.replicate 8 0, false)⟩] }

/-- Whether a read of `n` beats at a PATH_TX offset is under departure processing, its agent apart (R64, R67). -/
def coversHeader (first n : Nat) : Bool := readCovers first n 0 || readCovers first n 2 || readCovers first n 3

/-- The slot word of the first beat of a read at an offset in a PATH_TX window (R64). -/
def State.firstSlotWord (s : State) (offset : Nat) : Nat := offset % s.layout.section % s.layout.slot / 8

/-- What departure processing fixes at the acceptance of a read of path `p` (R67). -/
def State.departure (s : State) (p : Path) (first : Nat) : Departure :=
  let x := s.paths[p]
  { path := p, reading := s.reading, health := x.state, behaviour := x.set.behaviour, maxDwell := x.set.maxDwell,
    txLead := x.set.txLead, reportBack := reportBackWord x, firstWord := first }

/-- The acceptance of a read (R1, R3, R7, R9). -/
def acceptRead (r : ReadReq) (last : Bool) (s : State) : State :=
  match s.classify r.addr with
  | .page _ | .through => issueLater r.tag r.addr r.enables false last none s
  | .window win offset =>
    match win.kind with
    | .routeTx =>
      (match s.slotReadPath win.route (s.slotOf offset) with
       | some q => issueLater r.tag (s.copyAddr q win.route offset) r.enables win.swap last none s
       | none => answerZeros r.tag r.enables.length win.swap last s)
    | .pathTx =>
      let first := s.firstSlotWord offset
      let d :=
        if s.isModemOf r.tag win.path && coversHeader first r.enables.length then some (s.departure win.path first)
        else none
      issueLater r.tag (translate (s.windowBase win) offset) r.enables win.swap last d s
    | .pathRx | .status | .plain =>
      issueLater r.tag (translate (s.windowBase win) offset) r.enables win.swap last none s

/-! ### The port -/

/-- The acceptance of a request, one half of a split request at a time (R4). -/
def accept (q : PortRequest) (s : State) : State :=
  match q with
  | .write w acks => acceptWrite w acks s
  | .read r last => acceptRead r last s

/-- Whether an offer is the Agent Port's. -/
def Offer.isAgent (o : Offer) : Bool :=
  match o.source with
  | .agent _ _ _ => true
  | .refusal | .snapshotWord | .result | .report => false

/-- Whether the Command Unit works through a RESTART (R173). -/
def CuState.isRestarting : CuState → Bool
  | .executing _ .draining => true
  | .idle | .fetching _ | .executing _ (.writing _ _) | .executing _ (.answering _) | .executing _ .answered => false

/-- The port accepts a request: no write is held (R2), and no RESTART is under way (R18). -/
def State.portOpen (s : State) : Bool := !s.offers.any Offer.isAgent && !s.cu.state.isRestarting

/-- The state with the requests that wait at the port replaced. -/
def State.setWaiting (s : State) (qs : List PortRequest) : State := { s with portWaiting := qs }

/-- The port takes the waiting requests in order, until a write is held (R1, R2). -/
def pump : List PortRequest → State → State
  | [], s => s.setWaiting []
  | q :: qs, s => if s.portOpen then pump qs (accept q s) else s.setWaiting (q :: qs)

/-- The port goes on with what waits at it. -/
def pumpPort (s : State) : State := pump s.portWaiting s

/-- A write request is presented at the Agent Port. -/
def presentWrite (w : WriteReq) (s : State) : State :=
  pumpPort (s.setWaiting (s.portWaiting ++ splitWrite w))

/-- A read request is presented at the Agent Port. -/
def presentRead (r : ReadReq) (s : State) : State :=
  pumpPort (s.setWaiting (s.portWaiting ++ splitRead r))

end Sys2Proof.Machine
end

