-- ==== Sys2Proof/Machine/Reports.lean ====
section
/-! DEFINITION. The Report Writer (11_report_rings.md): placement (R177, R178), the words of a record (R83), the status
word (R180), the consumer index (R179) and the acknowledge (R181). -/

namespace Sys2Proof.Machine

/-! ### Words -/

/-- The header word of a record as it is placed (R83). -/
def headerWord (r : Report) (number : BitVec 16) (drops : Nat) : Word :=
  setField (setField (setField (setField (setField (setField (setField 0 0 8 r.kind.code) 8 1 (bit (0 < drops)))
    9 1 (bit r.kind.urgent)) 16 16 number.toNat) 32 16 drops) 48 8 r.source.toNat) 56 8 r.cause.toNat

/-- Payload word k of a record: fields 2k and 2k + 1 (R83). -/
def payloadWord (fields : List (BitVec 32)) (k : Nat) : Word := fields.getD (2 * k + 1) 0 ++ fields.getD (2 * k) 0

/-- The eight words of a record (R83). -/
def recordWords (r : Report) (number : BitVec 16) (drops : Nat) : List Word :=
  [headerWord r number drops, r.stamp, payloadWord r.fields 0, payloadWord r.fields 1, payloadWord r.fields 2,
   payloadWord r.fields 3, payloadWord r.fields 4, payloadWord r.fields 5]

/-- A single-beat write of the part's own, with all byte enables (R35). -/
def ownWrite (addr : Addr) (w : Word) (owner : WriteOwner) : MemWrite := ⟨addr, [⟨w, allEnables⟩], owner⟩

/-- Words written one after another from an address (R35). That the lowest address goes first within the one offer is the
model's choice (DESIGN CHOICE, log 33). -/
def ownWrites (addr : Addr) (owner : WriteOwner) : List Word → List MemWrite
  | [] => []
  | w :: ws => ownWrite addr w owner :: ownWrites (addr + 8) owner ws

/-- The interrupt status word (R82). -/
def State.statusWord (s : State) : Word :=
  setField (setField 0 0 1 (bit s.rings[(0 : RingId)].pending)) 1 1 (bit s.rings[(1 : RingId)].pending)

/-! ### Placement -/

/-- The next write group (R177). -/
def Ring.nextGroup (x : Ring) : Nat := (x.group + 1) % x.groups

/-- A writer at the end of its group moves on unless the consumer holds the next group (R177, R179). -/
def Ring.moveOn (x : Ring) : Ring :=
  if x.position = x.perGroup ∧ x.nextGroup ≠ x.consumer then { x with group := x.nextGroup, position := 0 } else x

/-- Where the next record goes: none when the ring is full or the group's base is absent (R177). -/
def Ring.placeAt (x : Ring) : Option Addr :=
  if x.position = x.perGroup then none
  else
    match x.bases.toList.getD x.group none with
    | some base => some (base + BitVec.ofNat 32 (64 * x.position))
    | none => none

/-- The ring after a record is written, its pending flag apart (R177, R178). -/
def Ring.written (x : Ring) : Ring :=
  let x := { x with number := x.number + 1, drops := 0, position := x.position + 1 }
  if x.position = x.perGroup then
    Ring.moveOn { x with completed := if x.completed + 1 = x.irqGroups then 0 else x.completed + 1 }
  else x

/-- Whether writing a record completes the I-th group (R177). -/
def Ring.interrupts (x : Ring) : Bool := x.position + 1 == x.perGroup && x.completed + 1 == x.irqGroups

/-- A record is written: it becomes an offer of 16 entries, and the flags it sets are set (R177, R180). -/
def writeRecord (r : Report) (addr : Addr) (s : State) : State :=
  let x := s.rings[r.kind.ring]
  let s := presentOffer .report (ownWrites addr .ringRecord (recordWords r x.number x.drops)) s
  let s := s.setRing r.kind.ring x.written
  let s := if x.interrupts then setPending r.kind.ring s else s
  if r.kind.urgent then setPending 0 s else s

/-- The status word becomes an offer of 2 entries, with the flags as they stand (R176). -/
def offerStatus (s : State) : State :=
  presentOffer .report [ownWrite (s.pageBase + 0x80) s.statusWord .statusWord] s

/-- The Report Writer takes items, oldest first, until one becomes an offer (R176). Each turn takes one item, so the
number of items bounds the turns. -/
def placeItems : Nat → State → State
  | 0, s => s
  | n + 1, s =>
    match s.writeList with
    | [] => s
    | .status :: rest => offerStatus { s with writeList := rest }
    | .record r :: rest =>
      let s := { s with writeList := rest }
      match s.rings[r.kind.ring].placeAt with
      | some addr => writeRecord r addr s
      | none => placeItems n (countDrop r.kind s)

/-- Whether an offer is the Report Writer's. -/
def Offer.isReport (o : Offer) : Bool :=
  match o.source with
  | .report => true
  | .agent _ _ _ | .refusal | .snapshotWord | .result => false

/-- The Report Writer's turn (R176, R177). A drop adds at most one status word, so twice the items bound the turns. -/
def placeNext (s : State) : State :=
  if s.offers.any Offer.isReport then s else placeItems (2 * s.writeList.length) s

/-! ### Snooped page writes -/

/-- A consumer group index (R179). -/
def takeConsumer (r : RingId) (w : Word) (s : State) : State :=
  let x := s.rings[r]
  if field w 0 4 < x.groups then s.setRing r (Ring.moveOn { x with consumer := field w 0 4 }) else s

/-- An acknowledge word (R181). -/
def takeAcknowledge (w : Word) (s : State) : State :=
  let s := if w.getLsbD 0 then clearPending 0 s else s
  if w.getLsbD 1 then clearPending 1 s else s

end Sys2Proof.Machine
end

