-- ==== Sys2Proof/Machine/Queue.lean ====
section
/-! DEFINITION. The Write Queue's arbiter and the Memory Port (02_write_queue_and_slot_binding.md: R35 to R40), the Command
Unit's offers (R163, R164, R172) and the taking of a command at its admission (R162). -/

namespace Sys2Proof.Machine

/-! ### The Command Unit's offers -/

/-- Whether an offer is the Command Unit's. -/
def Offer.isCommandUnit (o : Offer) : Bool :=
  match o.source with
  | .refusal | .snapshotWord | .result => true
  | .agent _ _ _ | .report => false

/-- Result status codes (R82). -/
def Status.code : Status → Nat
  | .done => 0
  | .doneClamped => 1
  | .badCommand => 2
  | .badArgument => 3
  | .locked => 4
  | .busy => 5
  | .lineActive => 6

/-- The result word (R82). -/
def resultWord (label opcode : BitVec 8) (st : Status) (detail : Nat) : Word :=
  setField (setField (setField (setField 0 0 8 label.toNat) 8 8 opcode.toNat) 16 8 st.code) 24 16 detail

/-- A result record: two single-beat writes, 4 entries (R35, R82). -/
def State.resultWrites (s : State) (label opcode : BitVec 8) (a : Answer) : List MemWrite :=
  ownWrites (s.pageBase + 0x40) .commandUnit [resultWord label opcode a.status a.detail, a.value]

/-- The state with the Command Unit's own state replaced. -/
def State.setCu (s : State) (x : CuState) : State := { s with cu := { s.cu with state := x } }

/-- The answer of a SNAPSHOT whose words end before page offset `offset`: DONE with their number (R172). -/
def snapshotAnswer (offset : Nat) : Answer := ⟨.done, 0, BitVec.ofNat 64 ((offset - 0x100) / 8)⟩

/-- What the Command Unit offers of the command in progress (R164, R172). -/
def presentWork (s : State) : State :=
  match s.cu.state with
  | .executing c (.writing (w :: ws) offset) =>
    presentOffer .snapshotWord [ownWrite (s.pageBase + BitVec.ofNat 32 offset) w .commandUnit]
      (s.setCu (.executing c (.writing ws (offset + 8))))
  | .executing c (.writing [] offset) =>
    presentOffer .result (s.resultWrites c.label c.opcode (snapshotAnswer offset)) (s.setCu (.executing c .answered))
  | .executing c (.answering a) =>
    presentOffer .result (s.resultWrites c.label c.opcode a) (s.setCu (.executing c .answered))
  | .executing _ .draining | .executing _ .answered | .idle | .fetching _ => s

/-- The Command Unit's turn at the arbiter: nothing while an offer of its own waits; a refusal first (R36, R163). -/
def cuPresent (s : State) : State :=
  if s.offers.any Offer.isCommandUnit then s
  else
    match s.cu.refusal with
    | some r =>
      presentOffer .refusal (s.resultWrites r.label r.opcode ⟨.busy, 0, 0⟩)
        { s with cu := { s.cu with refusal := some { r with offered := true } } }
    | none => presentWork s

/-! ### The taking of a command -/

/-- The argument read: seven beats from page offset 0x008 (R162). -/
def State.argumentRead (s : State) : MemRead := ⟨.argument, s.pageBase + 8, List.replicate 7 allEnables⟩

/-- A command is taken, or refused BUSY (R162, R163), BUSY too where its write waited at the arbiter when a RESTART began
(DEDUCED, log 37). The argument read waits for the command write, the last in the
queue, and so for every write before it. -/
def takeCommand (w : Word) (tag : Tag) (s : State) : State :=
  match s.cu.state with
  | .idle =>
    queueRead s.argumentRead s.queue.length
      (s.setCu (.fetching ⟨w.extractLsb' 0 8, w.extractLsb' 8 8, tag⟩))
  | .fetching _ | .executing _ _ =>
    { s with cu := { s.cu with refusal := some ⟨w.extractLsb' 0 8, w.extractLsb' 8 8, false⟩ } }

/-- An effect for a word of the page that a write covers with all byte enables. -/
def onPageWord (off : Nat) (beats : List Beat) (k : Nat) (f : Word → State → State) (s : State) : State :=
  match coveredWord off beats k with
  | some w => f w s
  | none => s

/-- The words of the page watched at the admission of a MANAGEMENT agent's write: the command word, the acknowledge
word, the consumer indexes (R162, R179, R181). -/
def snoopPage (tag : Tag) (w : MemWrite) (s : State) : State :=
  let off := (w.addr - s.pageBase).toNat
  onPageWord off w.beats 19 (takeConsumer 1)
    (onPageWord off w.beats 18 (takeConsumer 0)
      (onPageWord off w.beats 17 takeAcknowledge
        (onPageWord off w.beats 0 (fun x => takeCommand x tag) s)))

/-! ### Admission -/

/-- What an admission completes, by the requester (R36, R163). -/
def afterAdmission (o : Offer) (s : State) : State :=
  match o.source with
  | .agent tag acks managed =>
    let s := ackIf tag acks s
    let s := if managed then o.writes.foldl (fun s w => snoopPage tag w s) s else s
    cuPresent (pumpPort s)
  | .refusal =>
    cuPresent
      (match s.cu.refusal with
       | some r => if r.offered then { s with cu := { s.cu with refusal := none } } else s
       | none => s)
  | .snapshotWord => cuPresent s
  | .result => cuPresent (s.setCu .idle)
  | .report => s

/-- Whether an offer's entries are free (R36). -/
def State.fits (s : State) (o : Offer) : Bool := s.occupied + entriesOf o.writes ≤ Config.queueCapacity

/-- The arbiter's turn: the oldest offer is admitted whole if its entries are free (R36). -/
def admitOldest (s : State) : State :=
  match s.offers with
  | o :: os =>
    if s.fits o then afterAdmission o { s with offers := os, queue := s.queue ++ o.writes } else s
  | [] => s

/-- A write presented, and admitted at once where nothing is ahead of it and its entries are free (log 4). -/
def presentAndAdmit (w : WriteReq) (s : State) : State :=
  let s' := presentWrite w s
  if s.portOpen = true ∧ s.offers = [] ∧ s.portWaiting = [] then (splitWrite w).foldl (fun s _ => admitOldest s) s' else s'

/-! ### The Memory Port -/

/-- Whose turn it is at the Memory Port (R39). -/
inductive Turn where
  | read (r : MemRead)
  | write (w : MemWrite)
  | nothing
  deriving DecidableEq, Repr

/-- The Memory Port's arbiter (R39). -/
def State.turn (s : State) : Turn :=
  match s.queue, s.readReady with
  | [], [] => .nothing
  | [], r :: _ => .read r
  | w :: _, [] => .write w
  | w :: _, r :: rs =>
    if s.fairCount < Config.readsAhead then .read r
    else
      match (r :: rs).find? (fun x => overlaps x w) with
      | some x => .read x
      | none => .write w

/-- A read is issued; it counts against a head write that waits (R39). -/
def issueRead (r : MemRead) (s : State) : State :=
  emit (.memRead r)
    { s with
      readReady := s.readReady.erase r
      readIssued := s.readIssued ++ [r]
      fairCount := if s.queue.isEmpty then s.fairCount else s.fairCount + 1 }

/-- The head write is issued whole and leaves the queue; the reads that waited for it alone are ready (R37, R38, R39). -/
def issueWrite (w : MemWrite) (s : State) : State :=
  let counted := s.readWait.map (fun x => (x.1, x.2 - 1))
  emit (.memWrite w)
    { s with
      queue := s.queue.drop 1
      readReady := s.readReady ++ (counted.filter (fun x => x.2 == 0)).map Prod.fst
      readWait := counted.filter (fun x => x.2 != 0)
      fairCount := 0 }

/-- The head write's turn (R37): nothing while the arbiter prefers a read. -/
def drainTurn (s : State) : State :=
  match s.turn with
  | .write w => issueWrite w s
  | .read _ | .nothing => s

/-- A turn of the Memory Port with a read ready (R39): nothing while no read is ready. -/
def readTurn (s : State) : State :=
  if s.readReady.isEmpty then s
  else
    match s.turn with
    | .read r => issueRead r s
    | .write w => issueWrite w s
    | .nothing => s

/-! ### Answers of memory -/

/-- The oldest issued read of an agent takes its answer (R3, R17). -/
def answerRead (id : Nat) (m : MemRead) (words : ReadWords) (error : Bool) (s : State) : State :=
  let tag := match s.reads.find? (fun r => r.id == id) with
    | some r => r.tag.val
    | none => 255
  let s :=
    { s with
      readIssued := s.readIssued.drop 1
      reads := s.reads.map (fun r => if r.id = id then { r with answer := some (words, error) } else r) }
  deliverReads (if error then memoryError 1 m.addr tag s else s)

/-- The head of the issued reads, when it is an agent's read that departure processing marks, or does not mark. -/
def State.issuedAgent (s : State) (departure : Bool) : Option (Nat × MemRead) :=
  match s.readIssued with
  | m :: _ =>
    (match m.ref with
     | .agent id =>
       if s.reads.any (fun r => r.id == id && r.departure.isSome == departure) then some (id, m) else none
     | .argument => none)
  | [] => none

/-- Memory's answer to the oldest issued read, of the kind the row names. -/
def answerTurn (departure : Bool) (words : ReadWords) (error : Bool) (s : State) : State :=
  match s.issuedAgent departure with
  | some (id, m) => answerRead id m words error s
  | none => s

/-- The tag of a write's owner in a MEMORY_ERROR report (R17); a ring record's error makes none. -/
def reportedTag : WriteOwner → Option Nat
  | .agent tag => some tag.val
  | .commandUnit | .statusWord => some 255
  | .ringRecord => none

/-- Memory's error answer to a drained write (R17). -/
def writeError (addr : Addr) (owner : WriteOwner) (s : State) : State :=
  match reportedTag owner with
  | some tag => memoryError 2 addr tag s
  | none => s

end Sys2Proof.Machine
end

