-- ==== Sys2Proof/Machine/Reset.lean ====
section
/-! DEFINITION. Power-on reset (R18, R40, R174) and the reset of a RESTART (R18, R173), with their commands. -/

namespace Sys2Proof.Machine

/-- Power-on reset: every block at its power-on value with the straps as sampled; the queue of commands and the model's
choice counter are not the part's (R18, R40, R41, R174). -/
def powerOnReset (ctlBase : BitVec 8) (mgmtTag : Tag) (s : State) : State :=
  { State.powerOn ctlBase mgmtTag with pending := s.pending, choice := s.choice }

/-- POWER_ON_RESET (R18). -/
def execPowerOnReset (ctlBase : BitVec 8) (mgmtTag : Tag) (s : State) : Host.Outcome State Fault Refusal :=
  .next (powerOnReset ctlBase mgmtTag s)

/-- The agent table after a RESTART: power-on values, the entry of the RESTART's own tag kept (R5). -/
def State.restartAgents (s : State) (tag : Tag) : Vector AgentEntry 16 :=
  (powerOnAgents s.mgmtTag).set tag s.agents[tag] tag.isLt

/-- The write list after a RESTART: a status word where a pending flag was set (R175). -/
def State.restartList (s : State) : List ListItem := if s.irqAsserted then [.status] else []

/-- The reset phase of a RESTART (R173); the Time Base, the filtered level of CUT_N, the control page base and the lock
level are kept. -/
def resetTables (c : Command) (s : State) : State :=
  { s with
    agents := s.restartAgents c.agent
    windows := Vector.replicate 8 emptyEntry
    layout := powerOnLayout
    steer := Vector.replicate 4 emptySteer
    pathSeq := Vector.replicate 8 0
    fairCount := 0
    arrivals := Vector.replicate 8 []
    overflows := Vector.replicate 8 0
    paths := Vector.replicate 8 powerOnPath
    estimator := defaultEstimator
    routes := Vector.replicate 4 emptyRoute
    mergers := Vector.replicate 4 emptyMerger
    rings := Vector.replicate 2 emptyRing
    writeList := s.restartList
    cu := { s.cu with state := .executing c (.answering ⟨.done, 0, 0⟩) } }

/-- The RESTART that drains, once the Write Queue is empty, no offer waits and every accepted read has returned
(R173). -/
def State.restartDue (s : State) : Option Command :=
  match s.cu.state with
  | .executing c .draining =>
    if s.queue.isEmpty && s.offers.isEmpty && s.reads.isEmpty then some c else none
  | .idle | .fetching _ | .executing _ (.writing _ _) | .executing _ (.answering _) | .executing _ .answered => none

/-- The reset of a RESTART, then the port resumes and the result is presented (R173). -/
def finishRestart (s : State) : State :=
  match s.restartDue with
  | some c => cuPresent (pumpPort (resetTables c s))
  | none => s

/-- RESTART_RESET (R173): nothing while the drain goes on. -/
def execRestartReset (s : State) : Host.Outcome State Fault Refusal := .next (finishRestart s.quiet)

end Sys2Proof.Machine
end

