-- ==== Sys2Proof/Machine/TimeKeeping.lean ====
section
/-! DEFINITION. The Time Base (03_time_base.md): the increment (R42), the filters (R44, R153), captures and their evaluation
(R45 to R51), the watch (R52), TIME_EVENT records (R53), and the effects of SET_TIME, SET_DISCIPLINE and SET_TIMING
(R56, R57, R62). -/

namespace Sys2Proof.Machine

/-! ### The increment -/

/-- Units of 2^−32 ns in a nanosecond. -/
def fracUnits : Nat := 4294967296

/-- The nominal period of 4 ns in units of 2^−32 ns (R42). -/
def nominalInc : Nat := 17179869184

/-- A quotient rounded half away from zero (R42). -/
def roundDiv (n : Int) (d : Nat) : Int :=
  if 0 ≤ n then (2 * n + d) / (2 * d) else -((2 * (-n) + d) / (2 * d))

/-- INC at a rate in ppb (R42). -/
def incrementOf (rate : Int) : Nat := ((nominalInc : Int) + roundDiv (rate * nominalInc) billion).toNat

/-- The spacing of boundaries in ms (section 3.5). -/
def Spacing.ms : Spacing → Nat
  | .ms1 => 1
  | .ms10 => 10
  | .ms100 => 100
  | .ms1000 => 1000

/-- The nanoseconds and fraction of TIME after an increment, before any carry into seconds, as one quantity (R42). -/
def Time.total (t : Time) (inc : Nat) : Nat := t.ns * fracUnits + t.frac + inc

/-- TIME after an increment (R42). -/
def Time.advance (t : Time) (inc : Nat) : Time :=
  let n := t.total inc
  if n < billion * fracUnits then { t with ns := n / fracUnits, frac := n % fracUnits }
  else
    let m := n - billion * fracUnits
    { sec := t.sec + 1, ns := m / fracUnits, frac := m % fracUnits }

/-- Whether an increment crosses a boundary (R58). -/
def crosses (p : Spacing) (t : Time) (inc : Nat) : Bool :=
  t.ns / (p.ms * 1000000) < t.total inc / fracUnits / (p.ms * 1000000)

/-- The run time saturates (R42). -/
def runLimit : Nat := 18446744073709551615

/-- One increment of the Time Base (R42, R58). -/
def TimeBase.increment (t : TimeBase) : TimeBase :=
  let inc := incrementOf t.rate
  let run := t.runFrac + inc
  { t with
    time := t.time.advance inc
    runNs := saturate runLimit (t.runNs + run / fracUnits)
    runFrac := run % fracUnits
    boundaryDue := crosses t.p t.time inc }

/-! ### The filters -/

/-- One sample of a filtered input (R44, R153). -/
def Filter.sample (f : Filter) (asserted : Bool) : Filter :=
  if asserted = f.level then { f with run := 0 } else { f with run := saturate Config.filterSamples (f.run + 1) }

/-- The samples that change the filtered level have come (R44, R153). -/
def Filter.due (f : Filter) : Bool := Config.filterSamples ≤ f.run

/-- A change of the filtered level to asserted is due. -/
def Filter.rising (f : Filter) : Bool := f.due && !f.level

/-- A change of the filtered level to deasserted is due. -/
def Filter.falling (f : Filter) : Bool := f.due && f.level

/-- The filtered level changes. -/
def Filter.change (f : Filter) : Filter := ⟨!f.level, 0⟩

/-! ### TIME_EVENT records -/

/-- Kinds of time event (R53, R182). -/
inductive TimeCause where
  | step | locked | unlocked | holdover | free | stray | rateClamp
  deriving DecidableEq, Repr

/-- The code of each kind (R182). -/
def TimeCause.code : TimeCause → Nat
  | .step => 1
  | .locked => 2
  | .unlocked => 3
  | .holdover => 4
  | .free => 5
  | .stray => 6
  | .rateClamp => 7

/-- Reference state codes (R63). -/
def RefState.code : RefState → Nat
  | .free => 0
  | .acquiring => 1
  | .locked => 2
  | .holdover => 3

/-- The TIME_EVENT record of a kind, with a phase error (R53, R182). -/
def State.timeReport (s : State) (cause : TimeCause) (e : Int) : Report :=
  makeReport .timeEvent 0 cause.code s.reading 0
    [u32 s.tb.ref.code, i32 e, i32 s.tb.rate, u32 s.tb.epoch.toNat, u32 (bit s.tb.overcapture)]

/-- A TIME_EVENT record is submitted, and the overcapture flag cleared (R53). -/
def timeEvent (cause : TimeCause) (e : Int) (s : State) : State :=
  submit (s.timeReport cause e) (s.setTb { s.tb with overcapture := false })

/-- Several records of one event, in order (R53). -/
def timeEvents (causes : List TimeCause) (e : Int) (s : State) : State :=
  causes.foldl (fun s c => timeEvent c e s) s

/-! ### Captures -/

/-- A capture event (R45). -/
def TimeBase.capture (t : TimeBase) (src : CaptureSource) : TimeBase :=
  { t with
    current := some ⟨t.time.sec, t.time.ns, t.runNs, src, false⟩
    previous := t.current
    overcapture := (match t.current with | some c => t.overcapture || !c.used | none => t.overcapture) }

/-- The phase error of a capture (R46). -/
def phaseError (c : Capture) : Int := if c.ns < 500000000 then (c.ns : Int) else (c.ns : Int) - billion

/-- Whether a run time lies within 1 s ± `window` of an earlier one, bounds included (R46). -/
def nearSecond (window earlier run : Nat) : Bool :=
  earlier + billion ≤ run + window && run ≤ earlier + billion + window

/-- The frequency error of a capture (R46). -/
def TimeBase.freqError (t : TimeBase) (c : Capture) : Int :=
  match t.prevError, t.lastAccepted with
  | some e0, some run => if nearSecond t.disc.pulseWindow run c.run then phaseError c - e0 else 0
  | _, _ => 0

/-- A capture is accepted: the last accepted capture, the watch mark and the stray run (R48). -/
def TimeBase.accepted (t : TimeBase) (c : Capture) : TimeBase :=
  { t with lastAccepted := some c.run, watchMark := c.run, strayRun := 0 }

/-- TIME less some nanoseconds, the fraction left as it is (R48). -/
def Time.less (t : Time) (e : Int) : Time :=
  let n := (t.ns : Int) - e
  { t with sec := t.sec + BitVec.ofInt 48 (n / billion), ns := (n % billion).toNat }

/-- The repetition counter and the stats count are reloaded (R61). -/
def TimeBase.reload (t : TimeBase) : TimeBase := { t with repetition := t.r, stats := t.s }

/-- The step of R48. -/
def TimeBase.step (t : TimeBase) (e : Int) : TimeBase :=
  { t.reload with time := t.time.less e, epoch := t.epoch + 1, prevError := none, lockRun := 0 }

/-- The rate before the clamp of R48: rate − floor(e ÷ 2^gp) − floor(f ÷ 2^gf). -/
def TimeBase.steered (t : TimeBase) (e f : Int) : Int := t.rate - e / 2 ^ t.disc.gp - f / 2 ^ t.disc.gf

/-- Steps 1 to 3 of the discipline (R48): the new rate, clamped, and the previous error. -/
def TimeBase.discipline (t : TimeBase) (e f : Int) : TimeBase :=
  { t with rate := clampInt (-t.disc.rateLimit) t.disc.rateLimit (t.steered e f), prevError := some e }

/-- The RATE_CLAMP record of a discipline whose result lay outside ±RATE_LIMIT (R48). -/
def TimeBase.clampCauses (t : TimeBase) (e f : Int) : List TimeCause :=
  if t.steered e f < -t.disc.rateLimit ∨ (t.disc.rateLimit : Int) < t.steered e f then [.rateClamp] else []

/-- The evaluation of a capture in ACQUIRING (R48), and its records. -/
def TimeBase.acquire (t : TimeBase) (c : Capture) : TimeBase × List TimeCause :=
  let e := phaseError c
  let f := t.freqError c
  let a := t.accepted c
  if t.disc.stepThreshold < e.natAbs then (a.step e, [.step])
  else
    let run := if e.natAbs ≤ t.disc.lockWindow then t.lockRun + 1 else 0
    let d := { a.discipline e f with lockRun := run }
    if t.disc.lockCount ≤ run then ({ d with ref := .locked }, t.clampCauses e f ++ [.locked])
    else (d, t.clampCauses e f)

/-- Entry to ACQUIRING with both runs at 0, and the evaluation of the same capture there (R47, R49, R51). -/
def TimeBase.enterAcquiring (t : TimeBase) (c : Capture) : TimeBase × List TimeCause :=
  { t with ref := .acquiring, lockRun := 0, strayRun := 0 }.acquire c

/-- A stray (R50). -/
def TimeBase.stray (t : TimeBase) : TimeBase × List TimeCause :=
  if t.strayRun + 1 < 3 then ({ t with strayRun := t.strayRun + 1 }, [.stray])
  else
    ({ t with ref := .acquiring, strayRun := 0, lockRun := 0, watchMark := t.runNs },
      if t.ref = .locked then [.stray, .unlocked] else [.stray])

/-- The evaluation of a capture by the reference state (R47 to R51). -/
def TimeBase.evaluate (t : TimeBase) (c : Capture) : TimeBase × List TimeCause :=
  let e := phaseError c
  match t.ref with
  | .free => t.enterAcquiring c
  | .acquiring => t.acquire c
  | .locked =>
    if t.disc.pulseWindow < e.natAbs then t.stray
    else if e.natAbs ≤ 4 * t.disc.lockWindow then ((t.accepted c).discipline e (t.freqError c), t.clampCauses e (t.freqError c))
    else
      let (t', causes) := t.enterAcquiring c
      (t', .unlocked :: causes)
  | .holdover => if t.disc.pulseWindow < e.natAbs then t.stray else t.enterAcquiring c

/-- The evaluation of the current capture, if it has not been used (R45). -/
def evaluateCapture (s : State) : State :=
  match s.tb.current with
  | some c =>
    if c.used then s
    else
      let t := { s.tb with current := some { c with used := true } }
      timeEvents (t.evaluate c).2 (phaseError c) (s.setTb (t.evaluate c).1)
  | none => s

/-! ### The watch -/

/-- The watch limits of ACQUIRING and LOCKED: 1.1 s (R52). -/
def watchLimit : Nat := 1100000000

/-- Whether the watch has expired (R52). -/
def TimeBase.watchDue (t : TimeBase) : Bool :=
  match t.ref with
  | .free => false
  | .acquiring | .locked => t.watchMark + watchLimit ≤ t.runNs
  | .holdover => t.watchMark + t.disc.holdoverLimit * billion ≤ t.runNs

/-- A watch expiry (R52). -/
def expireWatch (s : State) : State :=
  match s.tb.ref with
  | .free => s
  | .acquiring | .holdover => timeEvent .free 0 (s.setTb { s.tb with ref := .free })
  | .locked => timeEvent .holdover 0 (s.setTb { s.tb with ref := .holdover, watchMark := s.tb.runNs })

/-! ### The commands of the Time Base -/

/-- The reference state a SET_TIME leaves (R56). -/
def TimeBase.afterSetTime (t : TimeBase) : RefState :=
  match t.lastAccepted with
  | some run => if t.runNs < run + watchLimit then .acquiring else .free
  | none => .free

/-- The Time Base after a SET_TIME (R56). -/
def TimeBase.setTime (t : TimeBase) (sec : BitVec 48) (ns : Nat) : TimeBase :=
  { t.reload with
    time := ⟨sec, ns, 0⟩, secondsSet := true, epoch := t.epoch + 1, prevError := none, lockRun := 0, strayRun := 0
    current := t.current.map (fun c => { c with used := true })
    ref := t.afterSetTime }

/-- SET_TIME (R56). -/
def setTimeOf (sec : BitVec 48) (ns : Nat) (s : State) : State := timeEvent .step 0 (s.setTb (s.tb.setTime sec ns))

/-- The Time Base after a SET_DISCIPLINE: the parameters, and the rate clamped at once (R57, R43). -/
def TimeBase.setDiscipline (t : TimeBase) (d : Discipline) : TimeBase :=
  { t with disc := d, rate := clampInt (-d.rateLimit) d.rateLimit t.rate }

/-- The RATE_CLAMP record where the rate was clamped (R43). -/
def clampEvent (old : Int) (s : State) : State := if s.tb.rate = old then s else timeEvent .rateClamp 0 s

/-- The watch expiry that a lower HOLDOVER_LIMIT makes at once (R52, R57). -/
def endHoldover (s : State) : State := if s.tb.ref = .holdover ∧ s.tb.watchDue = true then expireWatch s else s

/-- SET_DISCIPLINE (R57, R43, R52). -/
def setDisciplineOf (d : Discipline) (s : State) : State :=
  endHoldover (clampEvent s.tb.rate (s.setTb (s.tb.setDiscipline d)))

/-- SET_TIMING (R62). -/
def TimeBase.setTiming (t : TimeBase) (p : Spacing) (r n : Nat) : TimeBase :=
  { t with p := p, r := r, s := n, repetition := r, stats := n }

end Sys2Proof.Machine
end

