-- ==== Sys2Proof/Machine/Update.lean ====
section
/-! DEFINITION. Update events and stats events (R58 to R60): window installation (R11), the reports of R99 and R32, the
dark-reported flags (R32), and the order of the blocks' work, which the manual leaves open (R99, R131, R159). -/

namespace Sys2Proof.Machine

/-! ### Window installation -/

/-- The installation of one window entry (R11). -/
def installWindow (s : State) (i : Fin 8) : State :=
  if s.windows[i].pending then s.setWindowEntry i ⟨s.windows[i].preload, s.windows[i].preload, false⟩ else s

/-- The installation of every pending window preload (R11). -/
def installWindows (s : State) : State := allPaths.foldl installWindow s

/-! ### Statistics reports -/

/-- floor(sum ÷ count), or 0 (R99). -/
def meanOf (sum count : Nat) : Nat := sum / count

/-- The mean race margin, clamped to 32 bits signed (R99). -/
def meanMargin (c : PathCounts) : Int := clampInt (-2147483648) 2147483647 (c.marginSum / (c.lateCopies : Int))

/-- The fields of PATH_RX_STATS (R99). -/
def rxStats (x : PathRecord) : List (BitVec 32) :=
  let c := x.period
  [u32 c.samples, u32 c.discarded, u32 (c.minimum.getD 0), u32 (c.maximum.getD 0), u32 (meanOf c.sum c.samples),
   u32 (match x.est with | some e => e / 16 | none => 0),
   u32 (match x.est with | some _ => sat32 (x.jit / 16) | none => 0),
   u32 (match x.tx with | some v => v.delay | none => 0),
   u32 c.losses, u32 c.wins, u32 c.lateCopies, i32 (meanMargin c)]

/-- The mean dwell field (R99): a free value where the mean does not fit 32 bits (log 35). -/
def meanDwell (c : PathCounts) : BitVec 32 :=
  if meanOf c.dwellSum c.dwellCount ≤ 4294967295 then u32 (meanOf c.dwellSum c.dwellCount)
  else Config.meanDwell c.dwellSum c.dwellCount

/-- The fields of PATH_TX_STATS (R99). -/
def txStats (x : PathRecord) : List (BitVec 32) :=
  let c := x.period
  [u32 c.commits, u32 c.probes, u32 c.departures, u32 c.expired, u32 c.blanked, meanDwell c,
   u32 c.dwellMax, u32 c.reportBacks, u32 (match x.tx with | some v => v.age | none => 255)]

/-- The two reports of one path at a stats event (R99). -/
def reportPath (p : Path) (s : State) : State :=
  let x := s.paths[p]
  if x.state = .disabled then s
  else
    submit (makeReport .pathTxStats p.val x.state.code s.reading p.val (txStats x))
      (submit (makeReport .pathRxStats p.val x.state.code s.reading p.val (rxStats x)) s)

/-- A path's period counts restart (R99). -/
def restartCounts (p : Path) (s : State) : State := countPath p (fun _ => zeroCounts) s

/-- The path statistics of a stats event (R99). -/
def pathStats (s : State) : State :=
  allPaths.foldl (fun s p => restartCounts p s) (allPaths.foldl (fun s p => reportPath p s) s)

/-- The ROUTE_STATS report of one route (R32). -/
def reportRoute (r : Route) (s : State) : State :=
  if s.routes[r].live.isEmpty then s
  else
    let st := s.steer[r]
    let m := s.mergers[r]
    submit (makeReport .routeStats r.val s.routes[r].chosen.mode.code s.reading 0
      [u32 st.commits, u32 st.darkDiscards, u32 st.abandoned, u32 st.mirrored, u32 m.stale, u32 m.resyncs,
       u32 s.routes[r].modeChanges]) s

/-- The route counts of the three blocks restart (R32, R131, R150). -/
def restartRoute (r : Route) (s : State) : State :=
  let s := s.setSteer r { s.steer[r] with commits := 0, darkDiscards := 0, abandoned := 0, mirrored := 0 }
  let s := s.setMerger r { s.mergers[r] with stale := 0, resyncs := 0 }
  s.setRouteRec r { s.routes[r] with modeChanges := 0 }

/-- The route statistics of a stats event (R32). -/
def routeStats (s : State) : State :=
  allRoutes.foldl (fun s r => restartRoute r s) (allRoutes.foldl (fun s r => reportRoute r s) s)

/-! ### Update events -/

/-- A route's dark-reported flag is cleared (R32). -/
def rearmRoute (s : State) (r : Route) : State := s.setSteer r { s.steer[r] with darkReported := false }

/-- The dark-reported flags are cleared (R32). -/
def rearmDark (s : State) : State := allRoutes.foldl rearmRoute s

/-- One piece of an update event's work (R99, R131, R159, R93). -/
def runTask (stats : Bool) (t : UpdateTask) (s : State) : State :=
  match t with
  | .pathStats => if stats then pathStats s else s
  | .routes => routesUpdate (if stats then routeStats s else s)
  | .release => autoRelease s
  | .monitor p => monitorUpdate p s

/-- Every piece of work once. -/
def allTasks : List UpdateTask := [.pathStats, .routes, .release] ++ allPaths.map UpdateTask.monitor

/-- A wished order made whole: every task once, the path statistics ahead of the release and of the Path Monitor's own
work, as R99 and R93 state. -/
def updateSchedule (wish : List UpdateTask) : List UpdateTask :=
  let order := (wish ++ allTasks).eraseDups
  let rest := order.filter (fun t => t != .pathStats)
  match order with
  | .routes :: _ => .routes :: .pathStats :: rest.filter (fun t => t != .routes)
  | _ => .pathStats :: rest

/-- An update event, a stats event too where `stats` says so, its work in the order of a wish (R59, R60). -/
def updateEvent (stats : Bool) (wish : List UpdateTask) (s : State) : State :=
  (updateSchedule wish).foldl (fun s t => runTask stats t s) (rearmDark (installWindows s))

/-- An update event in the order of the next free choice. -/
def freeUpdate (stats : Bool) (s : State) : State :=
  updateEvent stats (Config.updateOrder s.choice) { s with choice := s.choice + 1 }

/-- A boundary at which the repetition counter is 0 makes an update event (R59). -/
def TimeBase.makesUpdate (t : TimeBase) : Bool := t.boundaryDue && t.repetition == 0

/-- The update event of the next boundary is a stats event (R60). -/
def TimeBase.makesStats (t : TimeBase) : Bool := t.makesUpdate && t.stats == 1

/-- The counters after a boundary (R59, R60). -/
def TimeBase.afterBoundary (t : TimeBase) : TimeBase :=
  if t.repetition = 0 then
    { t with boundaryDue := false, repetition := t.r, stats := if t.stats = 1 then t.s else t.stats - 1 }
  else { t with boundaryDue := false, repetition := t.repetition - 1 }

/-- A boundary that an increment crossed is taken (R59, R60). -/
def takeBoundary (s : State) : State :=
  if s.tb.boundaryDue then
    if s.tb.makesUpdate then freeUpdate s.tb.makesStats (s.setTb s.tb.afterBoundary) else s.setTb s.tb.afterBoundary
  else s

end Sys2Proof.Machine
end

