-- ==== Sys2Proof/Machine/Events.lean ====
section
/-! DEFINITION. The commands of time and of the pins. An event whose condition does not hold changes nothing (log 2); an
event still due at the next core clock period is taken before that period's increment (log 3). -/

namespace Sys2Proof.Machine

/-! ### The events -/

/-- The filtered rising edge of REFP, if it is due: a capture event (R44, R45). -/
def takeRefpRise (s : State) : State :=
  if s.tb.refp.rising then s.setTb { s.tb.capture .refp with refp := s.tb.refp.change } else s

/-- The filtered falling edge of REFP, if it is due (R44). -/
def takeRefpFall (s : State) : State :=
  if s.tb.refp.falling then s.setTb { s.tb with refp := s.tb.refp.change } else s

/-- The filtered assertion of CUT_N, if it is due: a cut edge (R153, R154). -/
def takeCutRise (s : State) : State :=
  if s.cut.rising then cutEvent .cutLine (s.setCut s.cut.change) else s

/-- The filtered deassertion of CUT_N, if it is due (R153). -/
def takeCutFall (s : State) : State := if s.cut.falling then s.setCut s.cut.change else s

/-- The watch expiry, if it is due (R52). -/
def takeWatch (s : State) : State := if s.tb.watchDue then expireWatch s else s

/-- The expiry of a path's status timer, if it is due (R108). -/
def takeTimer (p : Path) (s : State) : State := if timerExpired s.tb.runNs s.paths[p] then expireTimer p s else s

/-- The end of a path's probation countdown (R110): one that the due update event brings to 0 ends with that event. A
countdown that stands at 0 in PROBATION, which no run reaches, is judged at once. -/
def takeCountdownEnd (p : Path) (s : State) : State :=
  if s.paths[p].state = .probation then
    if s.paths[p].countdown = 0 then judgeProbation p s
    else if s.tb.makesUpdate = true ∧ s.paths[p].countdown = 1 then takeBoundary s
    else s
  else s

/-- Whether a far-end condition lapses, `later` update events on. -/
def lapsesIn (later : Nat) (e : Estimator) (cond : Option Nat) : Bool :=
  match cond with
  | some age => lapses e (sat8 (age + later))
  | none => false

/-- The lapse of a path's far-end condition (R111): at once where its age calls for it; one that the due update event
brings to a lapse lapses with that event. -/
def takeLapse (p : Path) (s : State) : State :=
  if lapsesIn 0 s.estimator s.paths[p].farEnd then s.setPathRec p { s.paths[p] with farEnd := none }
  else if s.tb.makesUpdate = true ∧ lapsesIn 1 s.estimator s.paths[p].farEnd = true then takeBoundary s
  else s

/-- The events still due are taken before the next increment, in a fixed order (log 3). -/
def settle (s : State) : State :=
  let s := takeCutFall (takeCutRise (takeRefpFall (takeRefpRise (finishRestart s))))
  allPaths.foldl (fun s p => takeTimer p s) (takeWatch (takeBoundary s))

/-- The Time Base after one period of the core clock: the increment, then the sample of REFP (R42, R44). -/
def TimeBase.period (t : TimeBase) (refp : Bool) : TimeBase := { t.increment with refp := t.refp.sample refp }

/-- One period of the core clock: the increment, then the samples of REFP and CUT_N (R42, R44, R153). -/
def clockPeriod (refp cutN : Bool) (s : State) : State := (s.setTb (s.tb.period refp)).setCut (s.cut.sample cutN)

/-! ### The commands -/

/-- TIME_INCREMENT (R42). -/
def execTimeIncrement (refp cutN : Bool) (s : State) : Host.Outcome State Fault Refusal :=
  .next (clockPeriod refp cutN (settle s.quiet))

/-- CAPTURE_EVENT (R45). -/
def execCaptureEvent (s : State) : Host.Outcome State Fault Refusal := .next (takeRefpRise s.quiet)

/-- REFP_FALLING_EDGE (R44). -/
def execRefpFallingEdge (s : State) : Host.Outcome State Fault Refusal := .next (takeRefpFall s.quiet)

/-- CAPTURE_EVALUATION (R48). -/
def execCaptureEvaluation (s : State) : Host.Outcome State Fault Refusal := .next (evaluateCapture s.quiet)

/-- WATCH_EXPIRY (R52). -/
def execWatchExpiry (s : State) : Host.Outcome State Fault Refusal := .next (takeWatch s.quiet)

/-- BOUNDARY (R58, R59). -/
def execBoundary (s : State) : Host.Outcome State Fault Refusal := .next (takeBoundary s.quiet)

/-- UPDATE_EVENT (R59): the due boundary, where it makes an update event. -/
def execUpdateEvent (s : State) : Host.Outcome State Fault Refusal :=
  .next (if s.tb.makesUpdate then takeBoundary s.quiet else s.quiet)

/-- STATS_EVENT (R60): the due boundary, where it makes a stats event. -/
def execStatsEvent (s : State) : Host.Outcome State Fault Refusal :=
  .next (if s.tb.makesStats then takeBoundary s.quiet else s.quiet)

/-- PROBATION_COUNTDOWN_END (R110). -/
def execProbationCountdownEnd (p : Path) (s : State) : Host.Outcome State Fault Refusal :=
  .next (takeCountdownEnd p s.quiet)

/-- FAR_END_LAPSE (R111). -/
def execFarEndLapse (p : Path) (s : State) : Host.Outcome State Fault Refusal := .next (takeLapse p s.quiet)

/-- STATUS_TIMER_EXPIRY (R108). -/
def execStatusTimerExpiry (p : Path) (s : State) : Host.Outcome State Fault Refusal := .next (takeTimer p s.quiet)

/-- CUT_EDGE (R154). -/
def execCutEdge (s : State) : Host.Outcome State Fault Refusal := .next (takeCutRise s.quiet)

/-- CUT_LINE_DEASSERTED (R153). -/
def execCutLineDeasserted (s : State) : Host.Outcome State Fault Refusal := .next (takeCutFall s.quiet)

end Sys2Proof.Machine
end

