-- ==== Sys2Proof/Machine/Snapshot.lean ====
section
/-! DEFINITION. The records SNAPSHOT writes (R63, R118, R138, R152, R183): one 64-bit word per field. -/

namespace Sys2Proof.Machine

/-- An unsigned field. -/
def n64 (n : Nat) : Word := BitVec.ofNat 64 n

/-- A signed field, in two's complement. -/
def i64 (n : Int) : Word := BitVec.ofInt 64 n

/-- A flag. -/
def b64 (b : Bool) : Word := n64 (bit b)

/-- An address field. -/
def a64 (a : Addr) : Word := a.setWidth 64

/-- An optional field: a presence word and a value word, 0 when absent (R63, R118, R138). That the value word of an absent
group base is 0 too, where R183 gives none, is the model's choice (DESIGN CHOICE, log 39). -/
def pair64 : Option Nat → List Word
  | some n => [1, n64 n]
  | none => [0, 0]

/-! ### The time base -/

/-- The four words of a capture (R63). That an EMPTY capture is written as four zeros is the model's choice (DESIGN CHOICE,
log 34). -/
def captureWords : Option Capture → List Word
  | some c => [n64 (1 + 2 * bit (c.source == .generated) + 4 * bit c.used), n64 c.sec.toNat, n64 c.ns, n64 c.run]
  | none => [0, 0, 0, 0]

/-- The previous error as a presence word and a signed value word (R63). -/
def errorWords : Option Int → List Word
  | some e => [1, i64 e]
  | none => [0, 0]

/-- The time base record: 37 words (R63). -/
def timeBaseWords (t : TimeBase) : List Word :=
  [n64 t.time.sec.toNat, n64 t.time.ns, n64 t.time.frac, b64 t.secondsSet, n64 t.epoch.toNat, n64 t.ref.code,
   i64 t.rate, n64 t.runNs] ++
  captureWords t.current ++ captureWords t.previous ++ [b64 t.overcapture] ++ errorWords t.prevError ++
  [n64 t.lockRun, n64 t.strayRun] ++ pair64 t.lastAccepted ++
  [n64 t.watchMark, n64 t.p.ms, n64 t.r, n64 t.s, n64 t.repetition, n64 t.stats,
   n64 t.disc.stepThreshold, n64 t.disc.lockWindow, n64 t.disc.lockCount, n64 t.disc.pulseWindow, n64 t.disc.gp,
   n64 t.disc.gf, n64 t.disc.rateLimit, n64 t.disc.holdoverLimit]

/-! ### A path record -/

/-- Cut behaviour codes (R118). -/
def CutBehaviour.code : CutBehaviour → Nat
  | .blank => 0
  | .pass => 1

/-- The health and settings words of a path record: 1 to 35 (R118). -/
def healthWords (x : PathRecord) : List Word :=
  [n64 x.state.code, n64 x.set.cls.code, b64 x.set.standby, a64 x.set.txBase, a64 x.set.rxBase, n64 x.set.txLead,
   n64 x.set.maxDwell, b64 x.set.cutEnable, n64 x.set.behaviour.code, b64 x.set.autoRelease, i64 x.set.asymmetry] ++
  [i64 x.hs.downLevel, i64 x.hs.fadeLevel, i64 x.hs.recoverLevel, n64 x.hs.nFade, n64 x.hs.nDown, n64 x.hs.nRecover,
   n64 x.belowFade, n64 x.belowDown, n64 x.aboveRecover, n64 x.hs.minStep, i64 x.lastRsl, b64 x.lastLock,
   n64 x.lastStep] ++
  [n64 x.hs.timeout, b64 x.timer.isSome, n64 (x.timer.getD 0), n64 x.hs.lossFade, n64 x.hs.lossDown, n64 x.hs.probation,
   n64 x.countdown, n64 x.hs.minSamples, b64 x.farEnd.isSome, n64 (x.farEnd.getD 0), n64 x.lastCause]

/-- The measurement words of a path record: 36 to 53 (R118). -/
def measurementWords (x : PathRecord) : List Word :=
  pair64 (x.farEpoch.map BitVec.toNat) ++ pair64 (x.nearEpoch.map BitVec.toNat) ++ pair64 x.est ++
  [n64 x.jit, n64 x.rxCount, n64 x.rxAge] ++ pair64 (x.expected.map BitVec.toNat) ++
  [n64 x.outOfOrder, n64 x.updLosses, n64 x.lastLosses] ++
  (match x.tx with
   | some v => [1, n64 v.delay, n64 v.jitter, n64 v.age]
   | none => [0, 0, 0, 0])

/-- The period counts of a path record: words 54 to 73 (R118, R98). -/
def countWords (c : PathCounts) : List Word :=
  [n64 c.samples, n64 c.discarded] ++ pair64 c.minimum ++ pair64 c.maximum ++
  [n64 c.sum, n64 c.losses, n64 c.commits, n64 c.probes, n64 c.departures, n64 c.expired, n64 c.blanked, n64 c.dwellSum,
   n64 c.dwellCount, n64 c.dwellMax, n64 c.reportBacks, n64 c.wins, n64 c.lateCopies, i64 c.marginSum]

/-- A path record: 74 words (R118). -/
def State.pathWords (s : State) (p : Path) : List Word :=
  healthWords s.paths[p] ++ measurementWords s.paths[p] ++ countWords s.paths[p].period ++ [n64 s.overflows[p]]

/-! ### A route record -/

/-- Four list entries of words each, an entry beyond the list written as 0 (R138). -/
def listWords (words : List (List Word)) (count width : Nat) : List Word :=
  (words ++ List.replicate count (List.replicate width 0)).take count |>.flatten

/-- The words of an open-slot record (R138). -/
def openSlotWords (o : OpenSlot) : List Word :=
  [n64 o.slot, n64 o.binding.primary.val,
   n64 (match o.binding.extra with | none => 0 | some (.mirror, _) => 1 | some (.probe, _) => 2),
   n64 (match o.binding.extra with | none => 0 | some (_, q) => q.val), n64 o.opened.sec.toNat, n64 o.opened.ns]

/-- The Route Selector's words of a route record: 1 to 29 (R138). -/
def State.selectorWords (s : State) (r : Route) : List Word :=
  let x := s.routes[r]
  [n64 x.chosen.mode.code] ++ pair64 (x.chosen.active.map Fin.val) ++ pair64 (x.chosen.secondary.map Fin.val) ++
  [n64 x.live.length] ++ listWords (x.live.map (fun c => [n64 c.path.val, b64 c.standby])) 4 2 ++
  [b64 x.pending, n64 x.preload.length] ++ listWords (x.preload.map (fun p => [n64 p.val])) 4 1 ++
  [n64 x.preloadInterval, n64 x.interval, n64 x.countdown, n64 x.cursor, n64 x.modeChanges] ++
  ((x.live.map (fun c => n64 (metricCode (s.metricOf c.path)))) ++ List.replicate 4 (n64 (metricCode none))).take 4

/-- The Steering Unit's words of a route record: 30 to 61 (R138). -/
def steerWords (x : SteerRoute) : List Word :=
  [n64 x.openSlots.length] ++ listWords (x.openSlots.map openSlotWords) 4 6 ++
  [n64 x.seq.toNat, n64 x.commits, n64 x.darkDiscards, n64 x.abandoned, n64 x.mirrored, n64 x.roleDiscards,
   b64 x.darkReported]

/-- The words of an arrival record (R152). -/
def arrivalWords (a : Arrival) : List Word := [b64 a.seen, n64 a.sec.toNat, n64 a.ns, n64 a.path.val, b64 a.late]

/-- The Arrival Merger's words of a route record: 62 to 388 (R152). -/
def mergerWords (m : MergeRecord) : List Word :=
  [b64 m.tracking, n64 (if m.tracking then m.newest.toNat else 0), n64 m.staleRun, n64 m.resyncCount, n64 m.stale,
   n64 m.resyncs, n64 m.repeats] ++
  ((if m.tracking then m.table else List.replicate 64 unseen).map arrivalWords).flatten

/-- A route record: 388 words (R138, R152). -/
def State.routeWords (s : State) (r : Route) : List Word :=
  s.selectorWords r ++ steerWords s.steer[r] ++ mergerWords s.mergers[r]

/-! ### A ring state -/

/-- Whether an item of the write list is a record of a ring (R183). -/
def ListItem.onRing (r : RingId) : ListItem → Bool
  | .record x => x.kind.ring == r
  | .status => false

/-- A ring state: 45 words (R183). -/
def State.ringWords (s : State) (r : RingId) : List Word :=
  let x := s.rings[r]
  [n64 x.groups, n64 x.perGroup, n64 x.irqGroups, x.mask.setWidth 64, n64 x.group, n64 x.position, n64 x.completed,
   n64 x.consumer, b64 (x.position == x.perGroup), n64 x.drops, n64 x.number.toNat, b64 x.pending,
   n64 (s.writeList.filter (ListItem.onRing r)).length] ++
  (x.bases.toList.map (fun b => pair64 (b.map BitVec.toNat))).flatten

end Sys2Proof.Machine
end

