-- ==== Sys2Proof/Machine/Commands.lean ====
section
/-! DEFINITION. The commands of the Command Unit (10_control_page_and_commands.md): the return of the argument data (R162),
the judgement in the order of R164, the arguments, checks and clamps of R165 to R173, and the effects. -/

namespace Sys2Proof.Machine

/-! ### The return of the argument data -/

/-- The command whose argument data returns: the unit is FETCHING, the oldest issued read is the argument read, and the
opcode suits (R162, R164). -/
def State.argumentsFor (s : State) (suits : BitVec 8 → Bool) : Option Command :=
  match s.cu.state, s.readIssued with
  | .fetching c, m :: _ => if m.ref = .argument ∧ suits c.opcode = true then some c else none
  | .fetching _, [] | .idle, _ | .executing _ _, _ => none

/-- The argument read has returned. -/
def State.tookArguments (s : State) : State := { s with readIssued := s.readIssued.drop 1 }

/-- The judged command presents its result record (R164). -/
def answer (c : Command) (a : Answer) (s : State) : State := cuPresent (s.setCu (.executing c (.answering a)))

/-- A command judged and executed in one event, and answered (R164). -/
def judge (suits : BitVec 8 → Bool) (f : State → Answer × State) (s : State) : State :=
  match s.argumentsFor suits with
  | some c =>
    let (a, s') := f s.tookArguments
    answer c a s'
  | none => s

/-- Steps 2 and 3 of R164 before an effect: the lock level, then the first structural error. -/
def checked (level : Nat) (errors : List (Nat × Bool)) (s : State) (effect : Answer × State) : Answer × State :=
  if level ≤ s.cu.lockLevel then (⟨.locked, 0, 0⟩, s)
  else
    match firstBad errors with
    | some i => (badArgument i, s)
    | none => effect

/-- An answer with a value word. -/
def Answer.valued (a : Answer) (v : Word) : Answer := { a with value := v }

/-- DONE, detail 0, value 0. -/
def done : Answer := ⟨.done, 0, 0⟩

/-- A number as a path. -/
def toPath (n : Nat) : Path := ⟨n % 8, Nat.mod_lt _ (by decide)⟩

/-- A number as a route. -/
def toRoute (n : Nat) : Route := ⟨n % 4, Nat.mod_lt _ (by decide)⟩

/-- A number as a tag. -/
def toTag (n : Nat) : Tag := ⟨n % 16, Nat.mod_lt _ (by decide)⟩

/-- A number as a ring. -/
def toRing (n : Nat) : RingId := ⟨n % 2, Nat.mod_lt _ (by decide)⟩

/-! ### Errors of the argument read, and opcodes that name no command -/

/-- ARGUMENT_READ_ERROR (R162): BAD_ARGUMENT, detail 0, and a MEMORY_ERROR of kind read with agent 255. The value word is
0, for a RAISE_LOCK too, which is not judged (DEDUCED, log 36). -/
def argumentError (s : State) : State :=
  match s.argumentsFor (fun _ => true) with
  | some c => answer c (badArgument 0) (memoryError 1 (s.pageBase + 8) 255 s.tookArguments)
  | none => s

/-- ARGUMENT_READ_ERROR (R162). -/
def execArgumentReadError (s : State) : Host.Outcome State Fault Refusal := .next (argumentError s.quiet)

/-- An opcode that names no command (R164). -/
def namesNone (op : BitVec 8) : Bool := op == 0 || 0x12 < op.toNat

/-- BAD_COMMAND (R164, step 1). -/
def execBadCommand (_args : ArgWords) (s : State) : Host.Outcome State Fault Refusal :=
  .next (judge namesNone (fun s => (⟨.badCommand, 0, 0⟩, s)) s.quiet)

/-! ### SET_AGENT -/

/-- Role codes (the table of SET_AGENT). -/
def roleOf (n : Nat) : Role :=
  match n with
  | 0 => .none
  | 1 => .frameEngine
  | 2 => .modem
  | _ => .management

/-- The named entry is the only MANAGEMENT entry (R6). -/
def State.onlyManagement (s : State) (t : Tag) : Bool :=
  s.agents[t].role == .management && (s.agents.toList.filter (fun a => a.role == .management)).length == 1

/-- SET_AGENT (R6), with its structural checks in index order. -/
def judgeSetAgent (args : ArgWords) (s : State) : Answer × State :=
  let tag := argNat args 1
  let role := argNat args 2
  let path := argNat args 3
  checked 1
    [(1, 15 < tag), (2, 3 < role || (role != 3 && s.onlyManagement (toTag tag))), (3, 7 < path)] s
    (done, { s with agents := s.agents.set (toTag tag) ⟨roleOf role, toPath path⟩ (toTag tag).isLt })

/-- SET_AGENT (R6). -/
def execSetAgent (args : ArgWords) (s : State) : Host.Outcome State Fault Refusal :=
  .next (judge (· == 0x01) (judgeSetAgent args) s.quiet)

/-! ### The time base commands (R166) -/

/-- The largest spacing not above a value; 0 becomes 1 (R166). -/
def spacingOf (n : Nat) : Spacing :=
  if 1000 ≤ n then .ms1000 else if 100 ≤ n then .ms100 else if 10 ≤ n then .ms10 else .ms1

/-- SET_TIMING (R62, R166). -/
def judgeSetTiming (args : ArgWords) (s : State) : Answer × State :=
  let p := spacingOf (argNat args 1)
  let r := clampNat 0 255 (argNat args 2)
  let n := clampNat 1 255 (argNat args 3)
  checked 1 [] s
    (clampedAnswer [(1, p.ms != argNat args 1), (2, r != argNat args 2), (3, n != argNat args 3)],
      s.setTb (s.tb.setTiming p r n))

/-- SET_TIMING (R62). -/
def execSetTiming (args : ArgWords) (s : State) : Host.Outcome State Fault Refusal :=
  .next (judge (· == 0x02) (judgeSetTiming args) s.quiet)

/-- SET_TIME (R56, R166). -/
def judgeSetTime (args : ArgWords) (s : State) : Answer × State :=
  let sec := clampNat 0 281474976710655 (argNat args 1)
  checked 1 [(2, billion ≤ argNat args 2)] s
    (clampedAnswer [(1, sec != argNat args 1)], setTimeOf (BitVec.ofNat 48 sec) (argNat args 2) s)

/-- SET_TIME (R56). -/
def execSetTime (args : ArgWords) (s : State) : Host.Outcome State Fault Refusal :=
  .next (judge (· == 0x03) (judgeSetTime args) s.quiet)

/-- The eight parameters of SET_DISCIPLINE as given (R166). -/
def givenDiscipline (args : ArgWords) : Discipline :=
  { stepThreshold := argNat args 1, lockWindow := argNat args 2, lockCount := argNat args 3, pulseWindow := argNat args 4,
    gp := argField args 5 0 8, gf := argField args 5 8 8, rateLimit := argNat args 6, holdoverLimit := argNat args 7 }

/-- The eight parameters within the ranges of R46. -/
def clampDiscipline (d : Discipline) : Discipline :=
  { stepThreshold := clampNat 100 1000000 d.stepThreshold
    lockWindow := clampNat 10 10000 d.lockWindow
    lockCount := clampNat 1 15 d.lockCount
    pulseWindow := clampNat 1000 100000 d.pulseWindow
    gp := clampNat 0 7 d.gp
    gf := clampNat 0 7 d.gf
    rateLimit := clampNat 1 50000 d.rateLimit
    holdoverLimit := clampNat 1 65535 d.holdoverLimit }

/-- SET_DISCIPLINE (R57, R166). -/
def judgeSetDiscipline (args : ArgWords) (s : State) : Answer × State :=
  let g := givenDiscipline args
  let d := clampDiscipline g
  checked 1 [] s
    (clampedAnswer
      [(1, d.stepThreshold != g.stepThreshold), (2, d.lockWindow != g.lockWindow), (3, d.lockCount != g.lockCount),
       (4, d.pulseWindow != g.pulseWindow), (5, d.gp != g.gp), (6, d.gf != g.gf), (7, d.rateLimit != g.rateLimit),
       (8, d.holdoverLimit != g.holdoverLimit)],
      setDisciplineOf d s)

/-- SET_DISCIPLINE (R57). -/
def execSetDiscipline (args : ArgWords) (s : State) : Host.Outcome State Fault Refusal :=
  .next (judge (· == 0x04) (judgeSetDiscipline args) s.quiet)

/-! ### SET_LAYOUT and SET_WINDOW (R167) -/

/-- The largest k up to `top` with `base` × 2^k at most a value; 0 where none is (R167). -/
def powerBelow (base top n : Nat) : Nat := ((List.range top).filter (fun k => base * 2 ^ (k + 1) ≤ n)).length

/-- The layout a SET_LAYOUT gives, clamped and rounded down to powers of two (R167). -/
def layoutOf (section_ slot : Nat) : Layout :=
  ⟨⟨powerBelow 65536 6 section_ % 7, Nat.mod_lt _ (by decide)⟩, ⟨powerBelow 256 3 slot % 4, Nat.mod_lt _ (by decide)⟩⟩

/-- A new layout installed at once (R20, R79). -/
def installLayout (l : Layout) (s : State) : State :=
  if l = s.layout then s else { abandonAll s with layout := l, arrivals := Vector.replicate 8 [] }

/-- SET_LAYOUT (R20, R167). -/
def judgeSetLayout (args : ArgWords) (s : State) : Answer × State :=
  let given := argNat args 1
  let slot := argNat args 2
  let l := layoutOf given slot
  checked 2 [(1, given < 32 * slot)] s
    (clampedAnswer [(1, l.section != given), (2, l.slot != slot)], installLayout l s)

/-- SET_LAYOUT (R20). -/
def execSetLayout (args : ArgWords) (s : State) : Host.Outcome State Fault Refusal :=
  .next (judge (· == 0x05) (judgeSetLayout args) s.quiet)

/-- Window kind codes (R167). -/
def windowKindOf (n : Nat) : WindowKind :=
  match n with
  | 0 => .routeTx
  | 1 => .pathTx
  | 2 => .pathRx
  | 3 => .status
  | _ => .plain

/-- The entry a SET_WINDOW gives (R167). -/
def windowOf (args : ArgWords) : Window :=
  { enabled := argFlag args 2 0
    kind := windowKindOf (argField args 2 8 8)
    base := argAddr args 3
    sizeExp := ⟨argField args 2 16 8 % 9, Nat.mod_lt _ (by decide)⟩
    index := BitVec.ofNat 8 (argField args 2 24 8)
    transBase := argAddr args 4
    swap := argFlag args 2 32 }

/-- Whether a window's index lies outside the routes or the paths its kind serves (R167). -/
def indexBad (k : WindowKind) (i : Nat) : Bool :=
  match k with
  | .routeTx => 3 < i
  | .pathTx | .pathRx => 7 < i
  | .status | .plain => false

/-- The structural checks of SET_WINDOW, in index order (R167). -/
def State.windowErrors (s : State) (args : ArgWords) : List (Nat × Bool) :=
  let w := windowOf args
  [(1, 7 < argNat args 1), (3, 4 < argField args 2 8 8),
   (4, 8 < argField args 2 16 8 || w.mismatched s.layout),
   (5, indexBad w.kind w.index.toNat), (7, w.base.toNat % w.size != 0)]

/-- SET_WINDOW (R11, R167). -/
def judgeSetWindow (args : ArgWords) (s : State) : Answer × State :=
  let i : Fin 8 := toPath (argNat args 1)
  checked 2 (s.windowErrors args) s
    (done, s.setWindowEntry i { s.windows[i] with preload := windowOf args, pending := true })

/-- SET_WINDOW (R11). -/
def execSetWindow (args : ArgWords) (s : State) : Host.Outcome State Fault Refusal :=
  .next (judge (· == 0x06) (judgeSetWindow args) s.quiet)

/-! ### SET_PATH and SET_HEALTH (R168) -/

/-- Class codes (R168). -/
def classOf (n : Nat) : PathClass :=
  match n with
  | 0 => .mw
  | 1 => .mmw
  | _ => .fibre

/-- Argument 11 of SET_PATH: the asymmetry offset, signed (R168). -/
def givenAsymmetry (args : ArgWords) : Int := (argWord args 7).toInt

/-- The ten settings a SET_PATH gives, clamped; the low six bits of the receive base are taken as zero (R168, R12). -/
def settingsOf (args : ArgWords) : PathSettings :=
  { cls := classOf (argField args 2 0 8)
    standby := argFlag args 2 8
    txBase := argAddr args 3
    rxBase := blockBase (argAddr args 4)
    txLead := clampNat 0 65535 (argNat args 5)
    maxDwell := clampNat 1000 100000000 (argNat args 6)
    cutEnable := argFlag args 2 9
    behaviour := if argFlag args 2 10 then .pass else .blank
    autoRelease := argFlag args 2 11
    asymmetry := clampInt (-1000000) 1000000 (givenAsymmetry args) }

/-- The settings of a path written at once, with what a change of standby brings (R101, R120). -/
def writeSettings (p : Path) (x : PathSettings) (s : State) : State :=
  let changed := x.standby ≠ s.paths[p].set.standby
  let s := s.setPathRec p { s.paths[p] with set := x }
  if changed then standbyChanged p x.standby s else s

/-- SET_PATH (R101, R168). -/
def judgeSetPath (args : ArgWords) (s : State) : Answer × State :=
  let x := settingsOf args
  checked 2
    [(1, 7 < argNat args 1), (2, 2 < argField args 2 0 8), (7, x.txBase.toNat % (4 * s.layout.section) != 0)] s
    (clampedAnswer
      [(9, x.txLead != argNat args 5), (10, x.maxDwell != argNat args 6), (11, x.asymmetry != givenAsymmetry args)],
      writeSettings (toPath (argNat args 1)) x s)

/-- SET_PATH (R101). -/
def execSetPath (args : ArgWords) (s : State) : Host.Outcome State Fault Refusal :=
  .next (judge (· == 0x07) (judgeSetPath args) s.quiet)

/-- The twelve settings a SET_HEALTH gives, as given (R168). -/
def givenHealth (args : ArgWords) : HealthSettings :=
  { downLevel := argSigned16 args 2 0
    fadeLevel := argSigned16 args 2 16
    recoverLevel := argSigned16 args 2 32
    nFade := argField args 3 0 8
    nDown := argField args 3 8 8
    nRecover := argField args 3 16 8
    minStep := argField args 3 24 8
    timeout := argField args 4 0 16
    lossFade := argField args 5 0 16
    lossDown := argField args 5 16 16
    probation := argField args 6 0 8
    minSamples := argField args 6 8 8 }

/-- DOWN_LEVEL after steps 1 and 2 of R102. -/
def clampDown (n : Int) : Int := min (clampInt (-1000) 0 n) (-20)

/-- FADE_LEVEL after steps 1 to 3 of R102, with DOWN_LEVEL as clamped. -/
def clampFade (down n : Int) : Int :=
  let f := min (clampInt (-1000) 0 n) (-10)
  if f ≤ down then down + 10 else f

/-- RECOVER_LEVEL after steps 1 and 4 of R102, with FADE_LEVEL as clamped. -/
def clampRecover (fade n : Int) : Int :=
  let r := clampInt (-1000) 0 n
  if r ≤ fade then fade + 10 else r

/-- The clamps of R102, in their order. -/
def clampHealth (g : HealthSettings) : HealthSettings :=
  let down := clampDown g.downLevel
  let fade := clampFade down g.fadeLevel
  { downLevel := down
    fadeLevel := fade
    recoverLevel := clampRecover fade g.recoverLevel
    nFade := clampNat 1 15 g.nFade
    nDown := clampNat 1 15 g.nDown
    nRecover := clampNat 1 255 g.nRecover
    minStep := clampNat 0 15 g.minStep
    timeout := clampNat 1 1000 g.timeout
    lossFade := clampNat 1 1000 g.lossFade
    lossDown := clampNat 1 1000 g.lossDown
    probation := clampNat 1 255 g.probation
    minSamples := clampNat 1 255 g.minSamples }

/-- Which arguments of SET_HEALTH a clamp changed, in index order (R168). -/
def healthClamps (g h : HealthSettings) : List (Nat × Bool) :=
  [(2, h.downLevel != g.downLevel), (3, h.fadeLevel != g.fadeLevel), (4, h.recoverLevel != g.recoverLevel),
   (5, h.nFade != g.nFade), (6, h.nDown != g.nDown), (7, h.nRecover != g.nRecover), (8, h.minStep != g.minStep),
   (9, h.timeout != g.timeout), (10, h.lossFade != g.lossFade), (11, h.lossDown != g.lossDown),
   (12, h.probation != g.probation), (13, h.minSamples != g.minSamples)]

/-- The health settings of a path stored, with the expiry a lower timeout makes at once (R102, R108). -/
def writeHealth (p : Path) (h : HealthSettings) (s : State) : State :=
  takeTimer p (s.setPathRec p { s.paths[p] with hs := h })

/-- SET_HEALTH (R102, R168). -/
def judgeSetHealth (args : ArgWords) (s : State) : Answer × State :=
  let g := givenHealth args
  let h := clampHealth g
  checked 3 [(1, 7 < argNat args 1)] s
    (clampedAnswer (healthClamps g h), writeHealth (toPath (argNat args 1)) h s)

/-- SET_HEALTH (R102). -/
def execSetHealth (args : ArgWords) (s : State) : Host.Outcome State Fault Refusal :=
  .next (judge (· == 0x0A) (judgeSetHealth args) s.quiet)

/-! ### SET_ESTIMATOR and SET_ROUTE (R169) -/

/-- The seven parameters a SET_ESTIMATOR gives, clamped; accept-holdover is given as a number (R169). -/
def estimatorOf (args : ArgWords) : Estimator :=
  { k := clampNat 1 8 (argNat args 1)
    kj := clampNat 1 8 (argNat args 2)
    w := clampNat 0 15 (argNat args 3)
    maxPlausible := clampNat 1000 500000000 (argNat args 4)
    reportStale := clampNat 1 255 (argNat args 5)
    switchMargin := clampNat 0 1000000 (argNat args 6)
    acceptHoldover := argNat args 7 != 0 }

/-- An estimate above a limit is clamped to it (R97). -/
def limitEstimate (limit : Nat) (x : PathRecord) : PathRecord := { x with est := x.est.map (fun e => min e limit) }

/-- SET_ESTIMATOR's effect: all seven parameters, and the estimates under a lowered MAX_PLAUSIBLE (R97). -/
def writeEstimator (e : Estimator) (s : State) : State :=
  let lowered := e.maxPlausible < s.estimator.maxPlausible
  let s := { s with estimator := e }
  if lowered then
    allPaths.foldl (fun s p => s.setPathRec p (limitEstimate (16 * e.maxPlausible) s.paths[p])) s
  else s

/-- SET_ESTIMATOR (R97, R169). -/
def judgeSetEstimator (args : ArgWords) (s : State) : Answer × State :=
  let e := estimatorOf args
  checked 3 [] s
    (clampedAnswer
      [(1, e.k != argNat args 1), (2, e.kj != argNat args 2), (3, e.w != argNat args 3),
       (4, e.maxPlausible != argNat args 4), (5, e.reportStale != argNat args 5), (6, e.switchMargin != argNat args 6),
       (7, 1 < argNat args 7)],
      writeEstimator e s)

/-- SET_ESTIMATOR (R97). -/
def execSetEstimator (args : ArgWords) (s : State) : Host.Outcome State Fault Refusal :=
  .next (judge (· == 0x0B) (judgeSetEstimator args) s.quiet)

/-- The path number at a list position of SET_ROUTE (R169). -/
def listEntry (args : ArgWords) (i : Nat) : Nat := argField args 3 (8 * i) 8

/-- Whether a list position below the length is out of range or repeats an earlier one (R169). -/
def entryBad (args : ArgWords) (i : Nat) : Bool :=
  decide (i < argNat args 2) &&
    (decide (7 < listEntry args i) || (List.range i).any (fun j => listEntry args j == listEntry args i))

/-- The structural checks of SET_ROUTE, in index order (R169). -/
def routeErrors (args : ArgWords) : List (Nat × Bool) :=
  [(1, 3 < argNat args 1), (2, 4 < argNat args 2), (3, entryBad args 0), (4, entryBad args 1), (5, entryBad args 2),
   (6, entryBad args 3)]

/-- The list SET_ROUTE gives (R169). -/
def routeList (args : ArgWords) : List Path := (List.range (argNat args 2 % 5)).map (fun i => toPath (listEntry args i))

/-- A route's preload and its merger's RESYNC_COUNT stored (R121, R139). -/
def writePreload (r : Route) (list : List Path) (interval resync : Nat) (s : State) : State :=
  let s := s.setRouteRec r { s.routes[r] with preload := list, preloadInterval := interval, pending := true }
  s.setMerger r { s.mergers[r] with resyncCount := resync }

/-- SET_ROUTE (R121, R169). -/
def judgeSetRoute (args : ArgWords) (s : State) : Answer × State :=
  let interval := clampNat 0 255 (argNat args 4)
  let resync := clampNat 1 64 (argNat args 5)
  checked 3 (routeErrors args) s
    (clampedAnswer [(7, interval != argNat args 4), (8, resync != argNat args 5)],
      writePreload (toRoute (argNat args 1)) (routeList args) interval resync s)

/-- SET_ROUTE (R121). -/
def execSetRoute (args : ArgWords) (s : State) : Host.Outcome State Fault Refusal :=
  .next (judge (· == 0x0C) (judgeSetRoute args) s.quiet)

/-! ### SET_RING and SET_RING_GROUP (R170) -/

/-- The report mask: bits 1 to 9 of a word (R170). -/
def maskOf (w : Word) : BitVec 10 := w.setWidth 10 &&& 0x3FE

/-- A ring's geometry and mask stored; a change of geometry restarts its positions (R175). -/
def writeRing (r : RingId) (groups perGroup irqGroups : Nat) (mask : BitVec 10) (s : State) : State :=
  let x := s.rings[r]
  let y := { x with groups := groups, perGroup := perGroup, irqGroups := irqGroups, mask := mask }
  s.setRing r
    (if groups = x.groups ∧ perGroup = x.perGroup ∧ irqGroups = x.irqGroups then y
     else { y with group := 0, position := 0, completed := 0, consumer := 0 })

/-- SET_RING (R170, R175). -/
def judgeSetRing (args : ArgWords) (s : State) : Answer × State :=
  let g := clampNat 2 16 (argNat args 2)
  let b := clampNat 1 256 (argNat args 3)
  let i := clampNat 1 16 (argNat args 4)
  checked 2 [(1, 1 < argNat args 1)] s
    (clampedAnswer [(2, g != argNat args 2), (3, b != argNat args 3), (4, i != argNat args 4)],
      writeRing (toRing (argNat args 1)) g b i (maskOf (argWord args 5)) s)

/-- SET_RING (R175). -/
def execSetRing (args : ArgWords) (s : State) : Host.Outcome State Fault Refusal :=
  .next (judge (· == 0x08) (judgeSetRing args) s.quiet)

/-- One group base stored (R175). -/
def writeRingGroup (r : RingId) (group : Nat) (base : Addr) (s : State) : State :=
  let x := s.rings[r]
  let i : Tag := toTag group
  s.setRing r { x with bases := x.bases.set i (some base) i.isLt }

/-- SET_RING_GROUP (R170, R175). -/
def judgeSetRingGroup (args : ArgWords) (s : State) : Answer × State :=
  let base := argAddr args 3
  checked 2 [(1, 1 < argNat args 1), (2, 15 < argNat args 2), (3, base.toNat % 64 != 0)] s
    (done, writeRingGroup (toRing (argNat args 1)) (argNat args 2) base s)

/-- SET_RING_GROUP (R175). -/
def execSetRingGroup (args : ArgWords) (s : State) : Host.Outcome State Fault Refusal :=
  .next (judge (· == 0x09) (judgeSetRingGroup args) s.quiet)

/-! ### PATH_ADMIN (R171) -/

/-- The actions of PATH_ADMIN (R171). -/
inductive PathAction where
  | enable | disable | forceDown | releaseCut
  deriving DecidableEq, Repr

/-- The code of each action (R171). -/
def PathAction.code : PathAction → Nat
  | .enable => 0
  | .disable => 1
  | .forceDown => 2
  | .releaseCut => 3

/-- Whether a lock level freezes an action: DISABLE from level 3, the others never (R164, R171). -/
def PathAction.frozen (level : Nat) (act : PathAction) : Bool :=
  match act with
  | .disable => 3 ≤ level
  | .enable | .forceDown | .releaseCut => false

/-- The effect of an action, with its status (R113, R114, R115, R158). -/
def PathAction.effect (act : PathAction) (p : Path) (s : State) : Answer × State :=
  match act with
  | .enable => (done, enablePath p s)
  | .disable => (done, disablePath p s)
  | .forceDown => (done, Machine.forceDown p s)
  | .releaseCut => (⟨releaseStatus s.cut.level s.paths[p], 0, 0⟩, Machine.releaseCut p s)

/-- Bit 0 of the value word: the filtered level of CUT_N (R153, R171). -/
def State.cutValue (s : State) : Word := if s.cut.level then 1 else 0

/-- PATH_ADMIN with an action (R171): the structural errors ahead of the lock, which needs the action. -/
def judgePathAdmin (act : PathAction) (args : ArgWords) (s : State) : Answer × State :=
  let v := s.cutValue
  match firstBad [(1, 7 < argNat args 1), (2, 3 < argNat args 2)] with
  | some i => ((badArgument i).valued v, s)
  | none =>
    if act.frozen s.cu.lockLevel then ((Answer.mk .locked 0 0).valued v, s)
    else
      let (a, s') := act.effect (toPath (argNat args 1)) s
      (a.valued v, s')

/-- The row of an action takes the commands that name it, and those that name no action, which every row answers alike. -/
def suitsAction (act : PathAction) (args : ArgWords) (op : BitVec 8) : Bool :=
  op == 0x0D && (argNat args 2 == act.code || decide (3 < argNat args 2))

/-- PATH_ADMIN ENABLE (R113). -/
def execPathAdminEnable (args : ArgWords) (s : State) : Host.Outcome State Fault Refusal :=
  .next (judge (suitsAction .enable args) (judgePathAdmin .enable args) s.quiet)

/-- PATH_ADMIN DISABLE (R114). -/
def execPathAdminDisable (args : ArgWords) (s : State) : Host.Outcome State Fault Refusal :=
  .next (judge (suitsAction .disable args) (judgePathAdmin .disable args) s.quiet)

/-- PATH_ADMIN FORCE_DOWN (R115). -/
def execPathAdminForceDown (args : ArgWords) (s : State) : Host.Outcome State Fault Refusal :=
  .next (judge (suitsAction .forceDown args) (judgePathAdmin .forceDown args) s.quiet)

/-- PATH_ADMIN RELEASE_CUT (R158). -/
def execPathAdminReleaseCut (args : ArgWords) (s : State) : Host.Outcome State Fault Refusal :=
  .next (judge (suitsAction .releaseCut args) (judgePathAdmin .releaseCut args) s.quiet)

/-! ### APPLY and RAISE_LOCK -/

/-- APPLY (R11, R122, R171). -/
def judgeApply (s : State) : Answer × State := (done, installRoutes (installWindows s))

/-- APPLY (R171). -/
def execApply (_args : ArgWords) (s : State) : Host.Outcome State Fault Refusal :=
  .next (judge (· == 0x0E) judgeApply s.quiet)

/-- RAISE_LOCK (R165); the value word carries the level after the command. -/
def judgeRaiseLock (args : ArgWords) (s : State) : Answer × State :=
  let level := argNat args 1
  if 3 < level then ((badArgument 1).valued (n64 s.cu.lockLevel), s)
  else if level < s.cu.lockLevel then ((Answer.mk .locked 0 0).valued (n64 s.cu.lockLevel), s)
  else (done.valued (n64 level), { s with cu := { s.cu with lockLevel := level } })

/-- RAISE_LOCK (R165). -/
def execRaiseLock (args : ArgWords) (s : State) : Host.Outcome State Fault Refusal :=
  .next (judge (· == 0x0F) (judgeRaiseLock args) s.quiet)

/-! ### GENERATE (R171) -/

/-- The events of GENERATE (R171). -/
inductive TestEvent where
  | update | refPulse | cut
  deriving DecidableEq, Repr

/-- The code of each event (R171). -/
def TestEvent.code : TestEvent → Nat
  | .update => 0
  | .refPulse => 1
  | .cut => 2

/-- The event a GENERATE makes (R62, R45, R154). -/
def TestEvent.effect (e : TestEvent) (s : State) : State :=
  match e with
  | .update => freeUpdate false s
  | .refPulse => s.setTb (s.tb.capture .generated)
  | .cut => cutEvent .generated s

/-- GENERATE with an event (R171). -/
def judgeGenerate (e : TestEvent) (args : ArgWords) (s : State) : Answer × State :=
  checked 1 [(1, 2 < argNat args 1)] s (done, e.effect s)

/-- The row of an event takes the commands that name it, and those that name no event, which every row answers alike. -/
def suitsEvent (e : TestEvent) (args : ArgWords) (op : BitVec 8) : Bool :=
  op == 0x10 && (argNat args 1 == e.code || decide (2 < argNat args 1))

/-- GENERATE UPDATE (R62). -/
def execGenerateUpdate (args : ArgWords) (s : State) : Host.Outcome State Fault Refusal :=
  .next (judge (suitsEvent .update args) (judgeGenerate .update args) s.quiet)

/-- GENERATE REF_PULSE (R45). -/
def execGenerateRefPulse (args : ArgWords) (s : State) : Host.Outcome State Fault Refusal :=
  .next (judge (suitsEvent .refPulse args) (judgeGenerate .refPulse args) s.quiet)

/-- GENERATE CUT (R154). -/
def execGenerateCut (args : ArgWords) (s : State) : Host.Outcome State Fault Refusal :=
  .next (judge (suitsEvent .cut args) (judgeGenerate .cut args) s.quiet)

/-! ### SNAPSHOT and RESTART -/

/-- The words of an object (R172); none where the object or the index is out of range. -/
def State.objectWords (s : State) (object index : Nat) : List Word :=
  match object with
  | 0 => timeBaseWords s.tb
  | 1 => s.pathWords (toPath index)
  | 2 => s.routeWords (toRoute index)
  | _ => s.ringWords (toRing index)

/-- The largest index of an object (R172). -/
def lastIndex (object : Nat) : Nat :=
  match object with
  | 0 => 0
  | 1 => 7
  | 2 => 3
  | _ => 1

/-- What a SNAPSHOT comes to: the answer of a refused one, or the words to write (R172). -/
def State.snapshotWork (s : State) (args : ArgWords) : Work :=
  match firstBad [(1, 3 < argNat args 1), (2, lastIndex (argNat args 1) < argNat args 2)] with
  | some i => .answering (badArgument i)
  | none => .writing (s.objectWords (argNat args 1) (argNat args 2)) 0x100

/-- A command that takes effect over time: its work begins, and its first offer is presented (R172, R173). -/
def beginWork (op : BitVec 8) (work : State → Work) (s : State) : State :=
  match s.argumentsFor (· == op) with
  | some c =>
    let s' := s.tookArguments
    cuPresent (s'.setCu (.executing c (work s')))
  | none => s

/-- SNAPSHOT (R172). -/
def execSnapshot (args : ArgWords) (s : State) : Host.Outcome State Fault Refusal :=
  .next (beginWork 0x11 (fun s => s.snapshotWork args) s.quiet)

/-- What a RESTART comes to (R173). -/
def State.restartWork (s : State) : Work := if 1 ≤ s.cu.lockLevel then .answering ⟨.locked, 0, 0⟩ else .draining

/-- RESTART (R173). -/
def execRestart (_args : ArgWords) (s : State) : Host.Outcome State Fault Refusal :=
  .next (beginWork 0x12 State.restartWork s.quiet)

end Sys2Proof.Machine
end

