-- ==== Sys2Proof/Machine/MemoryPort.lean ====
section
/-! DEFINITION. The commands of the Write Queue, the Memory Port, the answers of frame memory and the Report Writer. -/

namespace Sys2Proof.Machine

/-- OFFER_ADMIT (R36). -/
def execOfferAdmit (s : State) : Host.Outcome State Fault Refusal := .next (admitOldest s.quiet)

/-- WRITE_DRAIN (R37). -/
def execWriteDrain (s : State) : Host.Outcome State Fault Refusal := .next (drainTurn s.quiet)

/-- READ_ISSUE (R39). -/
def execReadIssue (s : State) : Host.Outcome State Fault Refusal := .next (readTurn s.quiet)

/-- READ_RETURN (R3, R17). -/
def execReadReturn (words : ReadWords) (error : Bool) (s : State) : Host.Outcome State Fault Refusal :=
  .next (answerTurn false words error s.quiet)

/-- DEPARTURE_READ_DATA (R69). -/
def execDepartureReadData (words : ReadWords) (error : Bool) (s : State) : Host.Outcome State Fault Refusal :=
  .next (answerTurn true words error s.quiet)

/-- MEMORY_WRITE_ERROR (R17). -/
def execMemoryWriteError (addr : Addr) (owner : WriteOwner) (s : State) : Host.Outcome State Fault Refusal :=
  .next (writeError addr owner s.quiet)

/-- RECORD_PLACEMENT (R177). -/
def execRecordPlacement (s : State) : Host.Outcome State Fault Refusal := .next (placeNext s.quiet)

end Sys2Proof.Machine
end

