-- ==== Sys2Proof/Machine/Requests.lean ====
section
/-! DEFINITION. The commands that present a request at the Agent Port. What the request comes to is the Window Decoder's
decision at its acceptance (R7, R9): a row names the outcome the manual describes for the requests that reach it. -/

namespace Sys2Proof.Machine

/-- PAYLOAD_WRITE (R25). -/
def execPayloadWrite (w : WriteReq) (s : State) : Host.Outcome State Fault Refusal := .next (presentWrite w s.quiet)

/-- COMMIT (R27). -/
def execCommit (w : WriteReq) (s : State) : Host.Outcome State Fault Refusal := .next (presentWrite w s.quiet)

/-- ROLE_DISCARD (R13). -/
def execRoleDiscard (w : WriteReq) (s : State) : Host.Outcome State Fault Refusal := .next (presentWrite w s.quiet)

/-- SLOT_READ (R13). -/
def execSlotRead (r : ReadReq) (s : State) : Host.Outcome State Fault Refusal := .next (presentRead r s.quiet)

/-- DEPARTURE_READ (R67). -/
def execDepartureRead (r : ReadReq) (s : State) : Host.Outcome State Fault Refusal := .next (presentRead r s.quiet)

/-- ARRIVAL_HEADER_WRITE (R74). -/
def execArrivalHeaderWrite (w : WriteReq) (s : State) : Host.Outcome State Fault Refusal :=
  .next (presentWrite w s.quiet)

/-- RECEIVE_COMMIT (R75). -/
def execReceiveCommit (w : WriteReq) (s : State) : Host.Outcome State Fault Refusal := .next (presentWrite w s.quiet)

/-- STATUS_WORD (R103). -/
def execStatusWord (w : WriteReq) (s : State) : Host.Outcome State Fault Refusal := .next (presentWrite w s.quiet)

/-- TRANSLATED_WRITE (R12). -/
def execTranslatedWrite (w : WriteReq) (s : State) : Host.Outcome State Fault Refusal := .next (presentWrite w s.quiet)

/-- TRANSLATED_READ (R3). -/
def execTranslatedRead (r : ReadReq) (s : State) : Host.Outcome State Fault Refusal := .next (presentRead r s.quiet)

/-- CONTROL_PAGE_WRITE (R10). -/
def execControlPageWrite (w : WriteReq) (s : State) : Host.Outcome State Fault Refusal := .next (presentWrite w s.quiet)

/-- BUSY_REFUSAL (R163): the command write with its admission. -/
def execBusyRefusal (w : WriteReq) (s : State) : Host.Outcome State Fault Refusal := .next (presentAndAdmit w s.quiet)

/-- CONSUMER_INDEX_WRITE (R179): the write with its admission. -/
def execConsumerIndexWrite (w : WriteReq) (s : State) : Host.Outcome State Fault Refusal :=
  .next (presentAndAdmit w s.quiet)

/-- ACKNOWLEDGE (R181): the write with its admission. -/
def execAcknowledge (w : WriteReq) (s : State) : Host.Outcome State Fault Refusal := .next (presentAndAdmit w s.quiet)

end Sys2Proof.Machine
end

