-- ==== Sys2Proof/Machine/Dispatch.lean ====
section
/-! DEFINITION. One arm for each command. -/

namespace Sys2Proof.Machine

def exec (i : Instr) (s : State) : Host.Outcome State Fault Refusal :=
  match i with
  | .powerOnReset ctlBase mgmtTag => Sys2Proof.Machine.execPowerOnReset ctlBase mgmtTag s
  | .payloadWrite w => Sys2Proof.Machine.execPayloadWrite w s
  | .commit w => Sys2Proof.Machine.execCommit w s
  | .roleDiscard w => Sys2Proof.Machine.execRoleDiscard w s
  | .slotRead r => Sys2Proof.Machine.execSlotRead r s
  | .departureRead r => Sys2Proof.Machine.execDepartureRead r s
  | .departureReadData words error => Sys2Proof.Machine.execDepartureReadData words error s
  | .arrivalHeaderWrite w => Sys2Proof.Machine.execArrivalHeaderWrite w s
  | .receiveCommit w => Sys2Proof.Machine.execReceiveCommit w s
  | .statusWord w => Sys2Proof.Machine.execStatusWord w s
  | .translatedWrite w => Sys2Proof.Machine.execTranslatedWrite w s
  | .translatedRead r => Sys2Proof.Machine.execTranslatedRead r s
  | .controlPageWrite w => Sys2Proof.Machine.execControlPageWrite w s
  | .offerAdmit => Sys2Proof.Machine.execOfferAdmit s
  | .busyRefusal w => Sys2Proof.Machine.execBusyRefusal w s
  | .writeDrain => Sys2Proof.Machine.execWriteDrain s
  | .readIssue => Sys2Proof.Machine.execReadIssue s
  | .readReturn words error => Sys2Proof.Machine.execReadReturn words error s
  | .memoryWriteError addr owner => Sys2Proof.Machine.execMemoryWriteError addr owner s
  | .captureEvent => Sys2Proof.Machine.execCaptureEvent s
  | .captureEvaluation => Sys2Proof.Machine.execCaptureEvaluation s
  | .watchExpiry => Sys2Proof.Machine.execWatchExpiry s
  | .boundary => Sys2Proof.Machine.execBoundary s
  | .updateEvent => Sys2Proof.Machine.execUpdateEvent s
  | .statsEvent => Sys2Proof.Machine.execStatsEvent s
  | .probationCountdownEnd p => Sys2Proof.Machine.execProbationCountdownEnd p s
  | .farEndLapse p => Sys2Proof.Machine.execFarEndLapse p s
  | .statusTimerExpiry p => Sys2Proof.Machine.execStatusTimerExpiry p s
  | .cutEdge => Sys2Proof.Machine.execCutEdge s
  | .recordPlacement => Sys2Proof.Machine.execRecordPlacement s
  | .consumerIndexWrite w => Sys2Proof.Machine.execConsumerIndexWrite w s
  | .acknowledge w => Sys2Proof.Machine.execAcknowledge w s
  | .argumentReadError => Sys2Proof.Machine.execArgumentReadError s
  | .badCommand args => Sys2Proof.Machine.execBadCommand args s
  | .setAgent args => Sys2Proof.Machine.execSetAgent args s
  | .setTiming args => Sys2Proof.Machine.execSetTiming args s
  | .setTime args => Sys2Proof.Machine.execSetTime args s
  | .setDiscipline args => Sys2Proof.Machine.execSetDiscipline args s
  | .setLayout args => Sys2Proof.Machine.execSetLayout args s
  | .setWindow args => Sys2Proof.Machine.execSetWindow args s
  | .setPath args => Sys2Proof.Machine.execSetPath args s
  | .setHealth args => Sys2Proof.Machine.execSetHealth args s
  | .setEstimator args => Sys2Proof.Machine.execSetEstimator args s
  | .setRoute args => Sys2Proof.Machine.execSetRoute args s
  | .setRing args => Sys2Proof.Machine.execSetRing args s
  | .setRingGroup args => Sys2Proof.Machine.execSetRingGroup args s
  | .pathAdminEnable args => Sys2Proof.Machine.execPathAdminEnable args s
  | .pathAdminDisable args => Sys2Proof.Machine.execPathAdminDisable args s
  | .pathAdminForceDown args => Sys2Proof.Machine.execPathAdminForceDown args s
  | .pathAdminReleaseCut args => Sys2Proof.Machine.execPathAdminReleaseCut args s
  | .apply args => Sys2Proof.Machine.execApply args s
  | .raiseLock args => Sys2Proof.Machine.execRaiseLock args s
  | .generateUpdate args => Sys2Proof.Machine.execGenerateUpdate args s
  | .generateRefPulse args => Sys2Proof.Machine.execGenerateRefPulse args s
  | .generateCut args => Sys2Proof.Machine.execGenerateCut args s
  | .snapshot args => Sys2Proof.Machine.execSnapshot args s
  | .restart args => Sys2Proof.Machine.execRestart args s
  | .restartReset => Sys2Proof.Machine.execRestartReset s
  | .timeIncrement refp cutN => Sys2Proof.Machine.execTimeIncrement refp cutN s
  | .refpFallingEdge => Sys2Proof.Machine.execRefpFallingEdge s
  | .cutLineDeasserted => Sys2Proof.Machine.execCutLineDeasserted s

end Sys2Proof.Machine
end

