-- ==== Sys2Proof/Safety.lean ====
section
/-! DEFINITION. The invariants of the part, and the words the statements use: a free port, a request inside one 64-byte
block, where a read goes, a path and a route through an update event, a command whose argument data returns, the Command
Unit's turn, the state a command's answer leaves, the records of statistics and of a layout change, and the tables of the
records SNAPSHOT writes. -/

namespace Sys2Proof.Machine

/-! ### Invariants -/

/-- The Write Queue holds at most 64 entries (R37). -/
def State.queueBounded (s : State) : Prop := s.occupied ≤ 64

/-- The rate lies within ±RATE_LIMIT, and RATE_LIMIT within 1 to 50,000 ppb (R43). -/
def State.rateBounded (s : State) : Prop :=
  1 ≤ s.tb.disc.rateLimit ∧ s.tb.disc.rateLimit ≤ 50000 ∧ s.tb.rate.natAbs ≤ s.tb.disc.rateLimit

/-- TIME's nanoseconds and fraction lie in their ranges (section 3.1). -/
def State.timeInRange (s : State) : Prop := s.tb.time.ns < 1000000000 ∧ s.tb.time.frac < 4294967296

/-- Each RX estimate is at most 16 × MAX_PLAUSIBLE (R92). -/
def State.estimatesBounded (s : State) : Prop := ∀ p : Path, s.paths[p].est.getD 0 ≤ 16 * s.estimator.maxPlausible

/-- A route record obeys the mode table of R123. -/
def State.routeLegal (s : State) (rt : RouteRecord) : Prop :=
  match rt.chosen with
  | ⟨.single, some a, none⟩ =>
    namesAs rt.live a false = true ∧
      (s.paths[a].state = .up ∨
        s.paths[a].state = .fading ∧ s.upCandidates rt.live false (some a) = [] ∧ s.upCandidates rt.live true (some a) = [])
  | ⟨.mirror, some a, some b⟩ =>
    namesAs rt.live a false = true ∧ s.paths[a].state = .fading ∧ names rt.live b = true ∧ s.paths[b].state = .up ∧ b ≠ a
  | ⟨.fallback, some a, none⟩ => namesAs rt.live a true = true ∧ s.paths[a].state = .up
  | ⟨.dark, none, none⟩ => True
  | _ => False

/-- Every route record obeys the mode table of R123. -/
def State.routesLegal (s : State) : Prop := ∀ r : Route, s.routeLegal s.routes[r]

/-- The open-slot lists, the pending-arrival lists and the ring records of the write list keep their bounds (section 2.2,
R74, R175). -/
def State.listsBounded (s : State) : Prop :=
  (∀ r : Route, s.steer[r].openSlots.length ≤ 4) ∧ (∀ p : Path, s.arrivals[p].length ≤ 4) ∧
    (s.writeList.filter ListItem.isRecord).length ≤ 8

/-- Every merger's arrival table holds 64 records (R139). -/
def State.mergersWhole (s : State) : Prop := ∀ r : Route, s.mergers[r].table.length = 64

/-- Every probation length is at least 1, and so is the countdown of every path in PROBATION: a countdown that reaches 0 is
judged in the event that brings it there (R100, R110). -/
def State.probationsCounted (s : State) : Prop :=
  ∀ p : Path, 1 ≤ s.paths[p].hs.probation ∧ (s.paths[p].state = .probation → 1 ≤ s.paths[p].countdown)

/-- The oldest accepted read has no answer yet, and the accepted reads have numbers of their own, all below the next one
(R3). -/
def State.readsOrdered (s : State) : Prop :=
  (∀ x, s.reads.head? = some x → x.answer = none) ∧ (s.reads.map ReadRec.id).Nodup ∧ ∀ x ∈ s.reads, x.id < s.nextRead

/-- A merger window holds a sequence: it lies in the window and a copy of it has passed (R139, R149). -/
def MergeRecord.holds (m : MergeRecord) (seq : BitVec 24) : Prop :=
  m.tracking = true ∧ -63 ≤ distance m.newest seq ∧ distance m.newest seq ≤ 0 ∧
    (m.table[(63 + distance m.newest seq).toNat]?).map Arrival.seen = some true

/-! ### Requests -/

/-- Nothing waits at the Agent Port, no write is held there and no RESTART is under way. -/
def State.portFree (s : State) : Prop := s.portOpen = true ∧ s.portWaiting = []

/-- A request of `n` beats at a word-aligned address inside one 64-byte block: it is not split (R4). -/
def inBlock (a : Addr) (n : Nat) : Prop := wordAligned a = a ∧ n ≤ beatsBelowBoundary a

/-- An agent's offer of some writes, acknowledged at its admission. -/
def agentOffer (tag : Tag) (managed : Bool) (ws : List MemWrite) : Offer := ⟨.agent tag true managed, ws⟩

/-- The state with one more offer of an agent, the youngest, and no transfer on the pins. -/
def State.offered (s : State) (tag : Tag) (managed : Bool) (ws : List MemWrite) : State :=
  { s with bus := [], offers := s.offers ++ [agentOffer tag managed ws] }

/-- One transfer of read data for each beat, the last one marked (R3). -/
def beatsOut (tag : Tag) (error last : Bool) (data : List Word) : List BusOut :=
  data.zipIdx.map (fun x => BusOut.readBeat tag x.1 error (last && x.2 + 1 == data.length))

/-- The state with one more accepted read, or half of a split one, the youngest of the return order: ready when no queued
write has a word of it, else waiting for the last one that has to drain (R3, R4, R38). Memory gets its byte enables reversed
in each beat where the window swaps (R16). -/
def State.halfAccepted (s : State) (tag : Tag) (addr : Addr) (enables : List (BitVec 8)) (swap last : Bool)
    (d : Option Departure) : State :=
  let m : MemRead := ⟨.agent s.nextRead, addr, enables.map (swapEnable swap)⟩
  let t : State :=
    { s with
      nextRead := s.nextRead + 1
      reads := s.reads ++ [⟨s.nextRead, tag, enables.length, swap, last, d, none⟩] }
  if s.queue.any (overlaps m) then { t with readWait := t.readWait ++ [(m, drainsFor m s.queue)] }
  else { t with readReady := t.readReady ++ [m] }

/-- The state with one more accepted read and no transfer on the pins. -/
def State.readAccepted (s : State) (tag : Tag) (addr : Addr) (enables : List (BitVec 8)) (swap : Bool)
    (d : Option Departure) : State :=
  { s with bus := [] }.halfAccepted tag addr enables swap true d

/-- The state with one more read, or half of a split one, answered with zeros in its place of the return order (R3, R13): at
once where no earlier read waits. -/
def State.halfZeroed (s : State) (tag : Tag) (count : Nat) (swap last : Bool) : State :=
  if s.reads = [] then
    { s with bus := s.bus ++ beatsOut tag false last (List.replicate count 0), nextRead := s.nextRead + 1 }
  else
    { s with
      nextRead := s.nextRead + 1
      reads := s.reads ++ [⟨s.nextRead, tag, count, swap, last, none, some (Vector.replicate 8 0, false)⟩] }

/-- Where the Window Decoder sends a read that goes to memory, whether its beats are swapped, and what departure processing
fixes for it (R9, R12, R13, R67). -/
def State.readGoes (s : State) (r : ReadReq) (place : Addr) (swap : Bool) (d : Option Departure) : Prop :=
  ((s.classify r.addr = .through ∨ ∃ k, s.classify r.addr = .page k) ∧ place = r.addr ∧ swap = false ∧ d = none) ∨
    ∃ win offset, s.classify r.addr = .window win offset ∧ swap = win.swap ∧
      match win.kind with
      | .plain | .status => place = (win.transBase &&& ~~~63) + BitVec.ofNat 32 offset ∧ d = none
      | .pathRx => place = (s.paths[win.path].set.rxBase &&& ~~~63) + BitVec.ofNat 32 offset ∧ d = none
      | .pathTx =>
        let x := s.paths[win.path]
        let first := offset % s.layout.section % s.layout.slot / 8
        let covers := fun w => decide (first ≤ w ∧ w < first + r.enables.length)
        place = x.set.txBase + BitVec.ofNat 32 offset ∧
          d =
            if s.agents[r.tag].role = .modem ∧ s.agents[r.tag].path = win.path ∧ (covers 0 || covers 2 || covers 3) = true then
              some ⟨win.path, s.reading, x.state, x.set.behaviour, x.set.maxDwell, x.set.txLead, reportBackWord x, first⟩
            else none
      | .routeTx =>
        d = none ∧
          ∃ q, place = s.paths[q].set.txBase + BitVec.ofNat 32 (win.route.val * s.layout.section + offset) ∧
            match s.openSlot win.route (offset / s.layout.slot) with
            | some o => q = o.binding.primary
            | none => s.routes[win.route].chosen.active = some q

/-- A read is answered with zeros: its slot is unlisted and its route has no active path (R13). -/
def State.readZeroed (s : State) (r : ReadReq) (swap : Bool) : Prop :=
  ∃ win offset, s.classify r.addr = .window win offset ∧ win.kind = .routeTx ∧ swap = win.swap ∧
    s.openSlot win.route (offset / s.layout.slot) = none ∧ s.routes[win.route].chosen.active = none

/-- The state after the acceptance of a read, or of half of a split one (R1, R3, R4). -/
def State.halfTaken (s : State) (r : ReadReq) (last : Bool) (t : State) : Prop :=
  (∃ place swap d, s.readGoes r place swap d ∧ t = s.halfAccepted r.tag place r.enables swap last d) ∨
    ∃ swap, s.readZeroed r swap ∧ t = s.halfZeroed r.tag r.enables.length swap last

/-- The transfers of an answered read, in the agent's view, with departure processing where it applies and no error came
(R3, R4, R17, R67). -/
def ReadRec.returned (r : ReadRec) : List BusOut :=
  match r.answer with
  | none => []
  | some (words, error) =>
    let view := (words.toList.take r.count).map (fun w => if r.swap then swapBytes w else w)
    beatsOut r.tag error r.last
      (match r.departure, error with
       | some d, false => departureData d view
       | _, _ => view)

/-- The path records after an answered read has returned: departure processing counts its outcome, unless an error came
(R17, R72). -/
def ReadRec.counted (paths : Vector PathRecord 8) (r : ReadRec) : Vector PathRecord 8 :=
  match r.departure, r.answer with
  | some d, some (words, false) =>
    let view := (words.toList.take r.count).map (fun w => if r.swap then swapBytes w else w)
    paths.set d.path
      { paths[d.path] with period := outcomeCounts (departureOutcome d view) paths[d.path].period }
  | _, _ => paths

/-- A write of an agent of role `role` inside one 64-byte block of a window of kind `kind`, at a free port. -/
def State.writeTo (s : State) (w : WriteReq) (role : Role) (kind : WindowKind) (win : Window) (offset : Nat) : Prop :=
  s.portFree ∧ inBlock w.addr w.beats.length ∧ s.agents[w.tag].role = role ∧ win.kind = kind ∧
    s.classify w.addr = .window win offset

/-- A write by path `p`'s modem that carries the path's status word (R15). -/
def State.statusWrite (s : State) (w : WriteReq) (p : Path) (word : Word) : Prop :=
  ∃ win offset, s.writeTo w .modem .status win offset ∧ s.agents[w.tag].path = p ∧
    coveredWord offset w.beats (8 * p.val) = some word

/-- A receive commit of slot `slot` by path `p`'s modem, at slot offset `off` (R75). -/
def State.receives (s : State) (w : WriteReq) (p : Path) (win : Window) (offset : Nat) (word : Word) : Prop :=
  s.writeTo w .modem .pathRx win offset ∧ win.path = p ∧ s.agents[w.tag].path = p ∧
    coveredWord (s.slotOffset offset) w.beats 0 = some word ∧ readyBit word = true

/-- A write by a MANAGEMENT agent at an offset of the control page, inside one 64-byte block, with nothing ahead of it at
the port or the arbiter and its entries free. -/
def State.pageWrite (s : State) (w : WriteReq) (offset : Nat) : Prop :=
  s.portFree ∧ s.offers = [] ∧ s.agents[w.tag].role = .management ∧ offset < 4096 ∧
    w.addr = s.pageBase + BitVec.ofNat 32 offset ∧ inBlock w.addr w.beats.length ∧ s.occupied + (1 + w.beats.length) ≤ 64

/-- The Command Unit in one of the states in which it has nothing left to present (section 10.2). -/
def CuState.settled : CuState → Bool
  | .idle | .fetching _ | .executing _ .draining | .executing _ .answered => true
  | .executing _ (.writing _ _) | .executing _ (.answering _) => false

/-! ### A path's entry to a state -/

/-- A path record after its entry to a state at a run time, with the code of its cause (R84, R112, R155). -/
def PathRecord.entered (run : Nat) (new : Health) (cause : Nat) (x : PathRecord) : PathRecord :=
  let y : PathRecord := { x with state := new, lastCause := cause }
  let cleared : PathRecord := { y with belowFade := 0, belowDown := 0, aboveRecover := 0 }
  match new with
  | .up => y
  | .fading => { y with aboveRecover := 0 }
  | .down => cleared
  | .cut => { cleared with countdown := 0 }
  | .disabled => { cleared with timer := none, farEnd := none, countdown := 0 }
  | .probation =>
    { cleared with
      countdown := x.hs.probation, timer := some run, est := none, jit := 0, rxCount := 0, rxAge := 0
      farEpoch := none, nearEpoch := none, expected := none }

/-- The PATH_STATE record of path `p`'s change from `old` to the state and cause of `y`, its record after the entry (R116,
R182). -/
def State.changeReport (s : State) (p : Path) (old : Health) (y : PathRecord) : Report :=
  let code : Health → BitVec 32 := fun h =>
    match h with | .disabled => 0 | .probation => 1 | .up => 2 | .fading => 3 | .down => 4 | .cut => 5
  ⟨.pathState, BitVec.ofNat 8 p.val, BitVec.ofNat 8 y.lastCause, stampWord s.reading p.val,
    [code old, code y.state, (match y.set.cls with | .mw => 0 | .mmw => 1 | .fibre => 2), (if y.set.standby then 1 else 0),
     BitVec.ofInt 32 y.lastRsl, (if y.lastLock then 1 else 0), u32 y.lastStep, u32 y.updLosses,
     (if y.farEnd.isSome then 1 else 0)]⟩

/-! ### One path at an update event -/

/-- A path record after the loss check: LOSS_DOWN and LOSS_FADE with the changes of their entries (R109, R112). -/
def PathRecord.lossChecked (x : PathRecord) : PathRecord :=
  if (x.state = .up ∨ x.state = .fading ∨ x.state = .probation) ∧ x.hs.lossDown ≤ x.updLosses then
    { x with state := .down, lastCause := 9, belowFade := 0, belowDown := 0, aboveRecover := 0 }
  else if x.state = .up ∧ x.hs.lossFade ≤ x.updLosses then { x with state := .fading, lastCause := 5, aboveRecover := 0 }
  else x

/-- A path on probation has its samples or a fresh TX view (R110, R95). -/
def PathRecord.isProven (stale : Nat) (x : PathRecord) : Bool :=
  decide (x.hs.minSamples ≤ x.rxCount) || x.tx.any (fun v => decide (v.age ≤ stale))

/-- A path record after the probation countdown: one less, and judged where that is 0 (R110). -/
def PathRecord.countedDown (stale : Nat) (x : PathRecord) : PathRecord :=
  if x.state = .probation then
    if x.countdown - 1 = 0 then
      if x.isProven stale = true then { x with state := .up, lastCause := 14, countdown := 0 }
      else { x with countdown := x.hs.probation }
    else { x with countdown := x.countdown - 1 }
  else x

/-- A path record after the rest of the Path Monitor's work: the losses roll over, both views and the far-end condition age,
and a condition whose age exceeds REPORT_STALE or reaches 255 lapses (R93, R111). -/
def PathRecord.aged (stale : Nat) (x : PathRecord) : PathRecord :=
  { x with
    lastLosses := x.updLosses, updLosses := 0
    rxAge := if x.est.isSome then min 255 (x.rxAge + 1) else x.rxAge
    tx := x.tx.map (fun v => ⟨v.delay, v.jitter, min 255 (v.age + 1)⟩)
    farEnd := (x.farEnd.map (fun age => min 255 (age + 1))).filter (fun age => decide (age ≤ stale ∧ age < 255)) }

/-- A path record after the Path Monitor's work at an update event (R93, R109, R110, R111). -/
def PathRecord.monitored (stale : Nat) (x : PathRecord) : PathRecord := (x.lossChecked.countedDown stale).aged stale

/-- A path record after an automatic release at a run time (R159, R112, R84). -/
def PathRecord.released (run : Nat) (x : PathRecord) : PathRecord := x.entered run .probation 18

/-- The period counts of a path after an update event: restarted where it is a stats event too (R99). -/
def PathCounts.after (stats : Bool) (c : PathCounts) : PathCounts :=
  if stats then ⟨0, 0, none, none, 0, 0, 0, 0, 0, 0, 0, 0, 0, 0, 0, 0, 0, 0⟩ else c

/-! ### One route at an update event -/

/-- A route record after the installation of its preload, its selection apart (steps 1 to 5 of R122). -/
def RouteRecord.installed (s : State) (x : RouteRecord) : RouteRecord :=
  { x with
    live := x.preload.map (fun p => (⟨p, s.paths[p].set.standby⟩ : Candidate)), interval := x.preloadInterval
    cursor := 0, countdown := x.preloadInterval, pending := false }

/-- The state after the installation of a route's preload, if it is pending, with the full selection and its report (R122,
R125, R136). -/
def State.routeInstalled (s : State) (r : Route) : State :=
  if s.routes[r].pending then
    let x := s.routes[r].installed s
    choose r .listApplied none (s.fullSelection x) (s.setRouteRec r x)
  else s

/-- The Route Selector's update work on one route, its stats reading apart: the installation, the re-rank, the return from
FALLBACK, the probe countdown (R131, R132, R135). -/
def State.routeWorked (s : State) (r : Route) : State :=
  let ranked := rerank r (s.routeInstalled r)
  let x := ranked.routes[r]
  let back := x.live.any (fun c => c.standby == false && ranked.paths[c.path].state == .up)
  let returned :=
    if x.chosen.mode = .fallback ∧ back = true then choose r .fallbackReturn none (ranked.fullSelection x) ranked
    else ranked
  returned.setRouteRec r { returned.routes[r] with countdown := returned.routes[r].countdown - 1 }

/-- The Path Monitor's update work on one path, each change of state with its report and reselections (R93, R109 to R111,
R116, R126). -/
def State.pathWorked (s : State) (p : Path) : State :=
  let stale := s.estimator.reportStale
  let x := s.paths[p]
  let checked :=
    if (x.state = .up ∨ x.state = .fading ∨ x.state = .probation) ∧ x.hs.lossDown ≤ x.updLosses then
      enterState p .down .lossDown s
    else if x.state = .up ∧ x.hs.lossFade ≤ x.updLosses then enterState p .fading .lossFade s
    else s
  let y : PathRecord := { checked.paths[p] with countdown := checked.paths[p].countdown - 1 }
  let judged :=
    if y.state ≠ .probation then checked
    else if y.countdown ≠ 0 then checked.setPathRec p y
    else if y.isProven stale = true then enterState p .up .probationPassed (checked.setPathRec p y)
    else checked.setPathRec p { y with countdown := y.hs.probation }
  judged.setPathRec p (judged.paths[p].aged stale)

/-- The automatic release of one path at an update event (R159). -/
def State.pathReleased (s : State) (p : Path) : State :=
  if s.paths[p].state = .cut ∧ s.paths[p].set.autoRelease = true ∧ s.cut.level = false then
    enterState p .probation .autoRelease s
  else s

/-! ### What is due -/

/-- The due boundary makes an update event (R59). -/
def State.updateDue (s : State) : Prop := s.tb.boundaryDue = true ∧ s.tb.repetition = 0

/-- Nothing is due that the next period of the core clock would have to wait for (log 3). -/
def State.nothingDue (s : State) : Prop :=
  s.restartDue = none ∧ s.tb.refp.due = false ∧ s.cut.due = false ∧ s.tb.boundaryDue = false ∧ s.tb.watchDue = false ∧
    ∀ p : Path, timerExpired s.tb.runNs s.paths[p] = false

/-! ### Commands of the Command Unit -/

/-- The argument data of command `c` returns next, and the Command Unit has nothing at the arbiter (R162, R164). -/
def State.fetched (s : State) (c : Command) : Prop :=
  s.cu.state = .fetching c ∧ s.cu.refusal = none ∧ s.offers.any Offer.isCommandUnit = false ∧
    s.readIssued.head?.map MemRead.ref = some .argument

/-- The state in which a command's effect is made: its argument read has returned. -/
def State.working (s : State) : State := { s with bus := [], readIssued := s.readIssued.drop 1 }

/-- The state with the result record of command `c` presented, one offer of two writes (R164, R82). -/
def State.answered (s : State) (c : Command) (a : Answer) : State :=
  { s with
    cu := { s.cu with state := .executing c .answered }
    offers := s.offers ++
      [⟨.result, [⟨s.pageBase + 0x40, [⟨resultWord c.label c.opcode a.status a.detail, 0xFF⟩], .commandUnit⟩,
        ⟨s.pageBase + 0x48, [⟨a.value, 0xFF⟩], .commandUnit⟩]⟩] }

/-- The state after the Command Unit's turn at the arbiter: nothing while an offer of its own waits; else a refusal record
not yet admitted is offered as a result record, BUSY, and without one the next snapshot word, or the result, of the command
in progress (R36, R163, R164, R172). -/
def State.cuOffered (s : State) : State :=
  if s.offers.any Offer.isCommandUnit then s
  else
    match s.cu.refusal, s.cu.state with
    | some r, _ =>
      { s with
        offers := s.offers ++
          [⟨.refusal, [⟨s.pageBase + 0x40, [⟨resultWord r.label r.opcode .busy 0, 0xFF⟩], .commandUnit⟩,
            ⟨s.pageBase + 0x48, [⟨0, 0xFF⟩], .commandUnit⟩]⟩]
        cu := { s.cu with refusal := some ⟨r.opcode, r.label, true⟩ } }
    | none, .executing c (.writing (x :: xs) offset) =>
      { s with
        offers := s.offers ++
          [⟨.snapshotWord, [⟨s.pageBase + BitVec.ofNat 32 offset, [⟨x, 0xFF⟩], .commandUnit⟩]⟩]
        cu := { s.cu with state := .executing c (.writing xs (offset + 8)) } }
    | none, .executing c (.writing [] offset) => s.answered c ⟨.done, 0, BitVec.ofNat 64 ((offset - 0x100) / 8)⟩
    | none, .executing c (.answering a) => s.answered c a
    | none, .executing _ .draining | none, .executing _ .answered | none, .idle | none, .fetching _ => s

/-! ### Records of the rings -/

/-- The state after the drop of a record: taken and counted while the ring's drop count is below 65,535; one of an urgent
kind sets ring 0's flag, and a flag that changes lists a status word unless one waits (R178, R180). -/
def State.dropped (s : State) (r : Report) : State :=
  let x := s.rings[r.kind.ring]
  let rings :=
    if x.drops < 65535 then s.rings.set r.kind.ring { x with drops := x.drops + 1, number := x.number + 1 } else s.rings
  if r.kind.urgent = true ∧ s.rings[(0 : Fin 2)].pending = false then
    { s with
      rings := rings.set 0 { rings[(0 : Fin 2)] with pending := true }
      writeList := if s.writeList.any ListItem.isStatus then s.writeList else s.writeList ++ [.status] }
  else { s with rings := rings }

/-- The state after some reports of one event, submitted in order (R176). -/
def State.reported (s : State) (rs : List Report) : State := rs.foldl (fun u r => submit r u) s

/-- The records of a path at a stats event: PATH_RX_STATS, then PATH_TX_STATS, none of a DISABLED path. A mean is
floor(sum ÷ count), 0 where the count is 0; a mean dwell beyond 32 bits is a free value (R99, R182, log 35). -/
def State.pathReports (s : State) (p : Path) : List Report :=
  let x := s.paths[p]
  let c := x.period
  let mean : Nat → Nat → Nat := fun sum count => if count = 0 then 0 else sum / count
  let margin : Int := if c.lateCopies = 0 then 0 else c.marginSum / c.lateCopies
  let health : BitVec 8 :=
    match x.state with | .disabled => 0 | .probation => 1 | .up => 2 | .fading => 3 | .down => 4 | .cut => 5
  let report : ReportKind → List (BitVec 32) → Report := fun kind fields =>
    ⟨kind, BitVec.ofNat 8 p.val, health, stampWord s.reading p.val, fields⟩
  if x.state = .disabled then []
  else
    [report .pathRxStats
      [u32 c.samples, u32 c.discarded, u32 (c.minimum.getD 0), u32 (c.maximum.getD 0), u32 (mean c.sum c.samples),
       (match x.est with | some e => u32 (e / 16) | none => 0),
       (match x.est with | some _ => u32 (min 4294967295 (x.jit / 16)) | none => 0),
       (match x.tx with | some v => u32 v.delay | none => 0), u32 c.losses, u32 c.wins, u32 c.lateCopies,
       BitVec.ofInt 32 (max (-2147483648) (min margin 2147483647))],
     report .pathTxStats
      [u32 c.commits, u32 c.probes, u32 c.departures, u32 c.expired, u32 c.blanked,
       (if mean c.dwellSum c.dwellCount ≤ 4294967295 then u32 (mean c.dwellSum c.dwellCount)
        else Config.meanDwell c.dwellSum c.dwellCount),
       u32 c.dwellMax, u32 c.reportBacks, (match x.tx with | some v => u32 v.age | none => 255)]]

/-- The record of a route at a stats event: ROUTE_STATS, none where the live list is empty (R32, R182). -/
def State.routeReports (s : State) (r : Route) : List Report :=
  let x := s.routes[r]
  let st := s.steer[r]
  let m := s.mergers[r]
  if x.live = [] then []
  else
    [⟨.routeStats, BitVec.ofNat 8 r.val,
      (match x.chosen.mode with | .single => 0 | .mirror => 1 | .fallback => 2 | .dark => 3), stampWord s.reading 0,
      [u32 st.commits, u32 st.darkDiscards, u32 st.abandoned, u32 st.mirrored, u32 m.stale, u32 m.resyncs,
       u32 x.modeChanges]⟩]

/-- The records of a layout change for a route: one SLOT_EVENT ABANDONED for each open slot, oldest first (R20, R24,
R182). -/
def State.abandonReports (s : State) (r : Route) : List Report :=
  s.steer[r].openSlots.map (fun o =>
    ⟨.slotEvent, BitVec.ofNat 8 r.val, 1, stampWord s.reading 0,
      [u32 o.slot, u32 o.binding.primary.val,
       (match o.binding.extra with | none => 0 | some (.mirror, _) => 1 | some (.probe, _) => 2),
       (match o.binding.extra with | none => 255 | some (_, q) => u32 q.val),
       u32 o.opened.sec.toNat, u32 o.opened.ns, 255]⟩)

/-! ### The records of SNAPSHOT -/

/-- A record holds the words of each row of its table, the row's first word counted from 1 (R63, R118, R138, R152, R183). -/
def laidOut (ws : List Word) (rows : List (Nat × List Word)) : Prop :=
  ∀ row ∈ rows, (ws.drop (row.1 - 1)).take row.2.length = row.2

/-- An unsigned field of a record. -/
def num (n : Nat) : Word := BitVec.ofNat 64 n

/-- A flag of a record. -/
def flag (b : Bool) : Word := if b then 1 else 0

/-- An optional field of a record: presence, and the value or 0, which for an absent group base of a ring state is the
model's choice (log 39). -/
def presence (o : Option Nat) : List Word :=
  match o with
  | some n => [1, num n]
  | none => [0, 0]

/-- The word of a capture's presence, source and used flag, its seconds, nanoseconds and run time (R63); an EMPTY one is
four zeros (the model's choice, log 34). -/
def captureRow (c : Option Capture) : List Word :=
  match c with
  | some c =>
    [1 ||| (if c.source = .generated then 2 else 0) ||| (if c.used then 4 else 0), num c.sec.toNat, num c.ns, num c.run]
  | none => [0, 0, 0, 0]

/-- The table of R63. -/
def timeBaseRows (b : TimeBase) : List (Nat × List Word) :=
  [(1, [num b.time.sec.toNat, num b.time.ns, num b.time.frac]), (4, [flag b.secondsSet]), (5, [num b.epoch.toNat]),
   (6, [match b.ref with | .free => 0 | .acquiring => 1 | .locked => 2 | .holdover => 3]), (7, [BitVec.ofInt 64 b.rate]),
   (8, [num b.runNs]), (9, captureRow b.current), (13, captureRow b.previous), (17, [flag b.overcapture]),
   (18, match b.prevError with | some e => [1, BitVec.ofInt 64 e] | none => [0, 0]), (20, [num b.lockRun]),
   (21, [num b.strayRun]), (22, presence b.lastAccepted), (24, [num b.watchMark]),
   (25, [match b.p with | .ms1 => 1 | .ms10 => 10 | .ms100 => 100 | .ms1000 => 1000, num b.r, num b.s]),
   (28, [num b.repetition]), (29, [num b.stats]),
   (30, [num b.disc.stepThreshold, num b.disc.lockWindow, num b.disc.lockCount, num b.disc.pulseWindow, num b.disc.gp,
     num b.disc.gf, num b.disc.rateLimit, num b.disc.holdoverLimit])]

/-- The table of R118; the start time of a stopped timer and the age of a clear far-end condition are 0 (log 16). -/
def State.pathRows (s : State) (p : Path) : List (Nat × List Word) :=
  let x := s.paths[p]
  let i := BitVec.ofInt 64
  let c := x.period
  [(1, [match x.state with | .disabled => 0 | .probation => 1 | .up => 2 | .fading => 3 | .down => 4 | .cut => 5]),
   (2, [match x.set.cls with | .mw => 0 | .mmw => 1 | .fibre => 2, flag x.set.standby, x.set.txBase.setWidth 64,
     x.set.rxBase.setWidth 64, num x.set.txLead, num x.set.maxDwell, flag x.set.cutEnable,
     match x.set.behaviour with | .blank => 0 | .pass => 1, flag x.set.autoRelease, i x.set.asymmetry]),
   (12, [i x.hs.downLevel, i x.hs.fadeLevel, i x.hs.recoverLevel, num x.hs.nFade, num x.hs.nDown, num x.hs.nRecover]),
   (18, [num x.belowFade, num x.belowDown, num x.aboveRecover]),
   (21, [num x.hs.minStep, i x.lastRsl, flag x.lastLock, num x.lastStep]),
   (25, [num x.hs.timeout, flag x.timer.isSome, num (x.timer.getD 0)]),
   (28, [num x.hs.lossFade, num x.hs.lossDown, num x.hs.probation, num x.countdown, num x.hs.minSamples]),
   (33, [flag x.farEnd.isSome, num (x.farEnd.getD 0)]), (35, [num x.lastCause]),
   (36, presence (x.farEpoch.map BitVec.toNat)), (38, presence (x.nearEpoch.map BitVec.toNat)), (40, presence x.est),
   (42, [num x.jit]), (43, [num x.rxCount, num x.rxAge]), (45, presence (x.expected.map BitVec.toNat)),
   (47, [num x.outOfOrder, num x.updLosses, num x.lastLosses]),
   (50, match x.tx with | some v => [1, num v.delay, num v.jitter, num v.age] | none => [0, 0, 0, 0]),
   (54, [num c.samples, num c.discarded]), (56, presence c.minimum), (58, presence c.maximum),
   (60, [num c.sum, num c.losses, num c.commits, num c.probes, num c.departures, num c.expired, num c.blanked,
     num c.dwellSum, num c.dwellCount, num c.dwellMax, num c.reportBacks, num c.wins, num c.lateCopies, i c.marginSum]),
   (74, [num s.overflows[p]])]

/-- The tables of R138 and R152. -/
def State.routeRows (s : State) (r : Route) : List (Nat × List Word) :=
  let x := s.routes[r]
  let st := s.steer[r]
  let m := s.mergers[r]
  let four : (Nat → List Word) → List Word := fun f => f 0 ++ f 1 ++ f 2 ++ f 3
  [(1, [match x.chosen.mode with | .single => 0 | .mirror => 1 | .fallback => 2 | .dark => 3]),
   (2, presence (x.chosen.active.map Fin.val)), (4, presence (x.chosen.secondary.map Fin.val)), (6, [num x.live.length]),
   (7, four (fun k => match x.live[k]? with | some c => [num c.path.val, flag c.standby] | none => [0, 0])),
   (15, [flag x.pending]), (16, [num x.preload.length]),
   (17, four (fun k => match x.preload[k]? with | some p => [num p.val] | none => [0])), (21, [num x.preloadInterval]),
   (22, [num x.interval, num x.countdown, num x.cursor]), (25, [num x.modeChanges]),
   (26, four (fun k =>
     match x.live[k]? with
     | some c => (match s.metricOf c.path with | some n => [num n] | none => [0xFFFFFFFF])
     | none => [0xFFFFFFFF])),
   (30, [num st.openSlots.length]),
   (31, four (fun k =>
     match st.openSlots[k]? with
     | some o =>
       (match o.binding.extra with
        | none => [num o.slot, num o.binding.primary.val, 0, 0, num o.opened.sec.toNat, num o.opened.ns]
        | some (.mirror, q) => [num o.slot, num o.binding.primary.val, 1, num q.val, num o.opened.sec.toNat, num o.opened.ns]
        | some (.probe, q) => [num o.slot, num o.binding.primary.val, 2, num q.val, num o.opened.sec.toNat, num o.opened.ns])
     | none => [0, 0, 0, 0, 0, 0])),
   (55, [num st.seq.toNat]), (56, [num st.commits, num st.darkDiscards, num st.abandoned, num st.mirrored]),
   (60, [num st.roleDiscards]), (61, [flag st.darkReported]), (62, [flag m.tracking]),
   (63, [if m.tracking then num m.newest.toNat else 0]), (64, [num m.staleRun]), (65, [num m.resyncCount]),
   (66, [num m.stale, num m.resyncs]), (68, [num m.repeats]),
   (69, (List.range 64).flatMap (fun k =>
     match m.tracking, m.table[k]? with
     | true, some a => [flag a.seen, num a.sec.toNat, num a.ns, num a.path.val, flag a.late]
     | _, _ => [0, 0, 0, 0, 0]))]

/-- The table of R183. -/
def State.ringRows (s : State) (k : RingId) : List (Nat × List Word) :=
  let x := s.rings[k]
  let ofRing : ListItem → Bool := fun item => match item with | .record r => r.kind.ring == k | .status => false
  [(1, [num x.groups, num x.perGroup, num x.irqGroups]), (4, [x.mask.setWidth 64]),
   (5, [num x.group, num x.position, num x.completed]), (8, [num x.consumer]), (9, [flag (x.position == x.perGroup)]),
   (10, [num x.drops]), (11, [num x.number.toNat]), (12, [flag x.pending]),
   (13, [num (s.writeList.countP ofRing)]),
   (14, x.bases.toList.flatMap (fun b => presence (b.map BitVec.toNat)))]

end Sys2Proof.Machine
end

