-- ==== Sys2Proof/Certificates/Slice0/Obligations.lean ====
section
/-! DEFINITION. The statements about the BL7208 model, for the provers. -/

open Sys2Proof Sys2Proof.Machine

/-! ### The machine -/

/-- A step runs the command at the front of the queue on the state with the queue's rest; on an empty queue the part idles
(the model's choice, log 5). -/
def Obligations.StepRunsTheFrontCommand : Prop :=
  (∀ (s : State) (c : Instr) (rest : List Instr), s.pending = c :: rest → step s = exec c { s with pending := rest }) ∧
    ∀ s : State, s.pending = [] → step s = .next s

/-- Every command has a next state, in every state, and leaves the queue of commands alone: no rule stops the part
(R17: "The part raises no error of its own on the bus"). -/
def Obligations.EveryCommandGoesOn : Prop :=
  ∀ (c : Instr) (s : State), ∃ t, exec c s = .next t ∧ t.pending = s.pending

/-- Power-on reset gives every block the values its chapter states for it, with the straps as sampled. -/
def Obligations.PowerOnResetGivesEveryBlockItsValues : Prop :=
  ∀ (s : State) (ctlBase : BitVec 8) (mgmtTag : Fin 16), ∃ t, exec (.powerOnReset ctlBase mgmtTag) s = .next t ∧
    t.ctlBase = ctlBase ∧ t.mgmtTag = mgmtTag ∧
    (∀ tag : Fin 16, t.agents[tag] = if tag = mgmtTag then ⟨.management, 0⟩ else ⟨.none, 0⟩) ∧
    (∀ i : Fin 8, t.windows[i] = ⟨⟨false, .plain, 0, 0, 0, 0, false⟩, ⟨false, .plain, 0, 0, 0, 0, false⟩, false⟩) ∧
    t.portWaiting = [] ∧ t.reads = [] ∧ t.readWait = [] ∧ t.readReady = [] ∧ t.readIssued = [] ∧ t.queue = [] ∧
    t.offers = [] ∧ t.fairCount = 0 ∧ t.layout.section = 65536 ∧ t.layout.slot = 256 ∧
    (∀ r : Fin 4, t.steer[r] = ⟨[], 0, 0, 0, 0, 0, 0, false⟩) ∧ (∀ p : Fin 8, t.pathSeq[p] = 0) ∧
    t.tb.time = ⟨0, 0, 0⟩ ∧ t.tb.secondsSet = false ∧ t.tb.epoch = 0 ∧ t.tb.ref = .free ∧ t.tb.rate = 0 ∧
    t.tb.runNs = 0 ∧ t.tb.current = none ∧ t.tb.previous = none ∧ t.tb.overcapture = false ∧ t.tb.prevError = none ∧
    t.tb.lockRun = 0 ∧ t.tb.strayRun = 0 ∧ t.tb.lastAccepted = none ∧ t.tb.watchMark = 0 ∧ t.tb.refp.level = false ∧
    t.tb.p.ms = 100 ∧ t.tb.r = 0 ∧ t.tb.s = 10 ∧ t.tb.repetition = 0 ∧ t.tb.stats = 10 ∧
    t.tb.disc = ⟨1000, 100, 4, 10000, 2, 1, 20000, 600⟩ ∧
    (∀ p : Fin 8, t.arrivals[p] = [] ∧ t.overflows[p] = 0) ∧
    (∀ p : Fin 8, t.paths[p].state = .disabled ∧ t.paths[p].set = ⟨.mw, false, 0, 0, 0, 1000000, false, .blank, false, 0⟩ ∧
      t.paths[p].hs = ⟨-750, -650, -600, 3, 5, 20, 0, 50, 4, 32, 50, 8⟩ ∧ t.paths[p].timer = none ∧
      t.paths[p].farEnd = none ∧ t.paths[p].est = none ∧ t.paths[p].expected = none ∧ t.paths[p].tx = none) ∧
    t.estimator = ⟨6, 4, 4, 20000000, 20, 50, true⟩ ∧
    (∀ r : Fin 4, t.routes[r] = ⟨[], [], 10, false, ⟨.dark, none, none⟩, 10, 10, 0, 0⟩) ∧
    (∀ r : Fin 4, t.mergers[r].tracking = false ∧ t.mergers[r].resyncCount = 8 ∧ t.mergers[r].staleRun = 0) ∧
    t.cut.level = false ∧ t.cu = ⟨.idle, 0, none⟩ ∧
    (∀ k : Fin 2, t.rings[k] = ⟨2, 16, 1, 0, Vector.replicate 16 none, 0, 0, 0, 0, 0, 0, false⟩) ∧ t.writeList = [] ∧
    t.irqAsserted = false

/-! ### Invariants -/

/-- The invariants below hold right after reset. -/
def Obligations.InvariantsHoldAtReset : Prop :=
  State.reset.queueBounded ∧ State.reset.rateBounded ∧ State.reset.timeInRange ∧ State.reset.estimatesBounded ∧
    State.reset.routesLegal ∧ State.reset.listsBounded ∧ State.reset.mergersWhole ∧ State.reset.probationsCounted ∧
    State.reset.readsOrdered

/-- The Write Queue never holds more than 64 entries (R37); the open-slot lists, the pending-arrival lists and the write
list keep their bounds (R23, R74, R175); every arrival table keeps its 64 records (R139); a path in PROBATION keeps a
countdown of at least 1 (R100, R110); and no accepted read is kept once it is the oldest and has its answer (R3). -/
def Obligations.QueuesKeepTheirBounds : Prop :=
  ∀ s t : State, step s = .next t →
    (s.queueBounded → t.queueBounded) ∧ (s.listsBounded → t.listsBounded) ∧ (s.mergersWhole → t.mergersWhole) ∧
      (s.probationsCounted → t.probationsCounted) ∧ (s.readsOrdered → t.readsOrdered)

/-- Every route record obeys the mode table of R123 after every step. -/
def Obligations.RoutesKeepTheModeTable : Prop := ∀ s t : State, s.routesLegal → step s = .next t → t.routesLegal

/-- The rate never exceeds RATE_LIMIT in magnitude, nor RATE_LIMIT 50,000 ppb (R43); and TIME's nanoseconds and
fraction stay in their ranges (section 3.1, R42). -/
def Obligations.RateAndTimeStayInRange : Prop :=
  ∀ s t : State, s.rateBounded → step s = .next t → t.rateBounded ∧ (s.timeInRange → t.timeInRange)

/-- Each RX estimate stays between 0 and 16 × MAX_PLAUSIBLE (R92). -/
def Obligations.EstimatesStayBounded : Prop :=
  ∀ s t : State, s.estimatesBounded → step s = .next t → t.estimatesBounded

/-- The lock level never decreases except at power-on reset (R165). -/
def Obligations.LockLevelNeverDecreases : Prop :=
  ∀ (c : Instr) (s t : State), (∀ b m, c ≠ .powerOnReset b m) → exec c s = .next t → s.cu.lockLevel ≤ t.cu.lockLevel

/-! ### Requests that are translated or pass through -/

/-- An address is classified (R9, R161): the control page comes before the windows, then the lowest-numbered enabled
entry that covers it and is not mismatched, else it passes through. A write whole in one 64-byte block at a free port
becomes one offer, at its destination base plus its offset (R12); a write to a STATUS window by another role, or by a
modem without its own path's word whole, is translated and not snooped (R15); a write that hits no window, or the
control page, goes to its own address unchanged (R9, R10), the latter watched at its admission when its agent is
MANAGEMENT. -/
def Obligations.WritesGoToTheirTranslatedAddress : Prop :=
  (∀ (s : State) (a : Addr),
    let page := s.ctlBase.toNat * 16777216
    let inPage := page ≤ a.toNat ∧ a.toNat < page + 4096
    let hits : Fin 8 → Prop := fun i =>
      let win := s.windows[i].live
      let size := 65536 * 2 ^ win.sizeExp.val
      win.enabled = true ∧ win.base.toNat ≤ a.toNat ∧ a.toNat < win.base.toNat + size ∧
        (win.kind = .routeTx → size = s.layout.section) ∧ (win.kind = .pathTx → size = 4 * s.layout.section)
    (inPage → s.classify a = .page (a.toNat - page)) ∧
    (¬ inPage → ∀ i : Fin 8, hits i → (∀ j : Fin 8, j < i → ¬ hits j) →
      s.classify a = .window s.windows[i].live (a.toNat - s.windows[i].live.base.toNat)) ∧
    (¬ inPage → (∀ i : Fin 8, ¬ hits i) → s.classify a = .through)) ∧
  ∀ (s : State) (w : WriteReq), s.portFree → inBlock w.addr w.beats.length →
    (s.classify w.addr = .through →
      exec (.translatedWrite w) s = .next (s.offered w.tag false [⟨w.addr, w.beats, .agent w.tag⟩])) ∧
    (∀ k, s.classify w.addr = .page k →
      exec (.controlPageWrite w) s =
        .next (s.offered w.tag (s.agents[w.tag].role == .management) [⟨w.addr, w.beats, .agent w.tag⟩])) ∧
    ∀ (win : Window) (offset : Nat), s.classify w.addr = .window win offset →
      (win.kind = .plain ∨
          win.kind = .status ∧
            (s.agents[w.tag].role ≠ .modem ∨ coveredWord offset w.beats (8 * s.agents[w.tag].path.val) = none) →
        exec (.translatedWrite w) s = .next (s.offered w.tag false
          [⟨(win.transBase &&& ~~~63) + BitVec.ofNat 32 offset, w.beats.map (swapBeat win.swap), .agent w.tag⟩])) ∧
      (win.kind = .pathTx →
        exec (.translatedWrite w) s = .next (s.offered w.tag false
          [⟨s.paths[win.path].set.txBase + BitVec.ofNat 32 offset, w.beats.map (swapBeat win.swap), .agent w.tag⟩])) ∧
      (win.kind = .pathRx → ¬ (s.agents[w.tag].role = .modem ∧ s.agents[w.tag].path = win.path) →
        exec (.translatedWrite w) s = .next (s.offered w.tag false
          [⟨(s.paths[win.path].set.rxBase &&& ~~~63) + BitVec.ofNat 32 offset, w.beats.map (swapBeat win.swap),
            .agent w.tag⟩]))

/-- A write across a 64-byte boundary is split: its first half is accepted and holds the port without an
acknowledgement of its own, its second half waits (R4, R2). A read across one is split too: both halves are accepted, the
second at once after the first, each classified and translated as if made alone, and only the second carries the mark of
the last beat, so that the beats of both return as one response (R4, R3). A request at a held port waits (R2). -/
def Obligations.SplitWritesHoldTheirSecondHalf : Prop :=
  (∀ (s : State) (r : ReadReq), s.portFree → wordAligned r.addr = r.addr →
    beatsBelowBoundary r.addr < r.enables.length → r.enables.length ≤ 8 →
    (∀ x, s.reads.head? = some x → x.answer = none) →
    let n := beatsBelowBoundary r.addr
    ∀ t u : State, { s with bus := [] }.halfTaken ⟨r.tag, r.addr, r.enables.take n⟩ false t →
      t.halfTaken ⟨r.tag, r.addr + BitVec.ofNat 32 (8 * n), r.enables.drop n⟩ true u →
      exec (.translatedRead r) s = .next u ∧ exec (.slotRead r) s = .next u ∧ exec (.departureRead r) s = .next u) ∧
  (∀ s : State, s.portOpen = false →
    (∀ w : WriteReq, inBlock w.addr w.beats.length →
      exec (.translatedWrite w) s = .next { s with bus := [], portWaiting := s.portWaiting ++ [.write w true] }) ∧
    ∀ r : ReadReq, inBlock r.addr r.enables.length →
      exec (.translatedRead r) s = .next { s with bus := [], portWaiting := s.portWaiting ++ [.read r true] }) ∧
  ∀ (s : State) (w : WriteReq), s.portFree → wordAligned w.addr = w.addr →
    beatsBelowBoundary w.addr < w.beats.length → s.classify w.addr = .through →
    let n := beatsBelowBoundary w.addr
    exec (.translatedWrite w) s = .next
      { s with
        bus := []
        portWaiting := [.write ⟨w.tag, w.addr + BitVec.ofNat 32 (8 * n), w.beats.drop n⟩ true]
        offers := s.offers ++ [⟨.agent w.tag false false, [⟨w.addr, w.beats.take n, .agent w.tag⟩]⟩] }

/-- A read at a free port takes its place in the return order and goes to memory at its translated address, behind
the last queued write it overlaps and no write after it (R3, R12, R38): it overlaps a write where it reads a word the write
has a beat in, whatever the byte enables. Where the window swaps, each beat's byte enables reach memory reversed, as the
bytes and byte enables of a write's beats do (R16). -/
def Obligations.ReadsGoToTheirTranslatedAddress : Prop :=
  (∀ (s : State) (r : ReadReq), s.portFree → inBlock r.addr r.enables.length →
    (s.classify r.addr = .through ∨ (∃ k, s.classify r.addr = .page k) →
      exec (.translatedRead r) s = .next (s.readAccepted r.tag r.addr r.enables false none)) ∧
    ∀ (win : Window) (offset : Nat), s.classify r.addr = .window win offset →
      (win.kind = .plain ∨ win.kind = .status →
        exec (.translatedRead r) s = .next (s.readAccepted r.tag
          ((win.transBase &&& ~~~63) + BitVec.ofNat 32 offset) r.enables win.swap none)) ∧
      (win.kind = .pathRx →
        exec (.translatedRead r) s = .next (s.readAccepted r.tag
          ((s.paths[win.path].set.rxBase &&& ~~~63) + BitVec.ofNat 32 offset) r.enables win.swap none)) ∧
      (win.kind = .pathTx → ¬ (s.agents[r.tag].role = .modem ∧ s.agents[r.tag].path = win.path) →
        exec (.translatedRead r) s = .next (s.readAccepted r.tag
          (s.paths[win.path].set.txBase + BitVec.ofNat 32 offset) r.enables win.swap none))) ∧
    (∀ (m : MemRead) (w : MemWrite), overlaps m w = true ↔
      ∃ i j : Nat, i < m.enables.length ∧ j < w.beats.length ∧
        (m.addr &&& ~~~7) + BitVec.ofNat 32 (8 * i) = (w.addr &&& ~~~7) + BitVec.ofNat 32 (8 * j)) ∧
    (∀ (m : MemRead) (ws : List MemWrite),
      (drainsFor m ws = 0 ↔ ∀ w ∈ ws, overlaps m w = false) ∧
        (∀ k, drainsFor m ws = k + 1 →
          (∃ w, ws[k]? = some w ∧ overlaps m w = true) ∧ ∀ w ∈ ws.drop (k + 1), overlaps m w = false)) ∧
    ∀ (swap : Bool) (b : Beat) (k : Nat), k < 8 →
      (swapBeat swap b).data.extractLsb' (8 * k) 8 = b.data.extractLsb' (8 * if swap then 7 - k else k) 8 ∧
        (swapBeat swap b).en.getLsbD k = b.en.getLsbD (if swap then 7 - k else k) ∧
        (swapEnable swap b.en).getLsbD k = b.en.getLsbD (if swap then 7 - k else k)

/-! ### Route windows -/

/-- A discarded route window write is acknowledged at once, takes no Write Queue entry and is counted: a write by an agent
that is no FRAME_ENGINE, always reported (R13); a write of a FRAME_ENGINE to an unlisted slot of a DARK route, reported if
the route's dark-reported flag is clear (R26). -/
def Obligations.DiscardsAreAcknowledgedAndCounted : Prop :=
  ∀ (s : State) (w : WriteReq) (role : Role) (win : Window) (offset : Nat), s.writeTo w role .routeTx win offset →
    let st := s.steer[win.route]
    let report : BitVec 8 → Report := fun cause =>
      ⟨.slotEvent, BitVec.ofNat 8 win.route.val, cause, stampWord s.reading 0,
        [u32 (offset / s.layout.slot), 255, 0, 255, 0, 0, u32 w.tag.val]⟩
    (role ≠ .frameEngine →
      exec (.roleDiscard w) s = .next
        { submit (report 3) (s.setSteer win.route { st with roleDiscards := min 65535 (st.roleDiscards + 1) }) with
          bus := [.ack w.tag] }) ∧
    (role = .frameEngine → s.openSlot win.route (offset / s.layout.slot) = none →
      s.routes[win.route].chosen.mode = .dark →
      let counted :=
        s.setSteer win.route { st with darkDiscards := min 4294967295 (st.darkDiscards + 1), darkReported := true }
      let reported := if st.darkReported then counted else submit (report 2) counted
      exec (.payloadWrite w) s = .next { reported with bus := [.ack w.tag] } ∧
        exec (.commit w) s = .next { reported with bus := [.ack w.tag] })

/-- A payload write to a listed slot goes to the paths of the slot's record, primary first, with ready forced to 0
where it writes it; the list stays as it is (R25, R22, R30, R19). -/
def Obligations.PayloadFollowsTheSlotsRecord : Prop :=
  (∀ (s : State) (w : WriteReq) (win : Window) (offset : Nat) (o : OpenSlot),
    s.writeTo w .frameEngine .routeTx win offset → isCommit (offset % s.layout.slot) w.beats = false →
    s.openSlot win.route (offset / s.layout.slot) = some o →
    let data := (forceReady (offset % s.layout.slot) w.beats).map (swapBeat win.swap)
    let copy : Fin 8 → MemWrite := fun q =>
      ⟨s.paths[q].set.txBase + BitVec.ofNat 32 (win.route.val * s.layout.section + offset), data, .agent w.tag⟩
    exec (.payloadWrite w) s = .next (s.offered w.tag false
      (copy o.binding.primary :: (match o.binding.extra with | some (_, q) => [copy q] | none => [])))) ∧
    ∀ (off : Nat) (b : Beat) (bs : List Beat),
      (off / 8 ≠ 0 ∨ b.en.getLsbD 2 = false → forceReady off (b :: bs) = b :: bs) ∧
        (off / 8 = 0 → b.en.getLsbD 2 = true →
          ∃ d : BitVec 64, forceReady off (b :: bs) = ⟨d, b.en⟩ :: bs ∧
            ∀ i, i < 64 → d.getLsbD i = (b.data.getLsbD i && i != 16))

/-- A payload write to an unlisted slot of a route that is not DARK opens it with the targets the Route Selector
answers, at the newest end of the list; a full list first loses its oldest record, counted and reported ABANDONED
(R23, R24). -/
def Obligations.PayloadOpensAnUnlistedSlot : Prop :=
  ∀ (s u : State) (w : WriteReq) (win : Window) (offset : Nat) (b : Binding),
    s.writeTo w .frameEngine .routeTx win offset → isCommit (offset % s.layout.slot) w.beats = false →
    s.openSlot win.route (offset / s.layout.slot) = none → s.targets win.route = (some b, u) →
    let st := s.steer[win.route]
    let record : OpenSlot := ⟨offset / s.layout.slot, b, s.tb.time⟩
    let data := (forceReady (offset % s.layout.slot) w.beats).map (swapBeat win.swap)
    let copy : Fin 8 → MemWrite := fun q =>
      ⟨s.paths[q].set.txBase + BitVec.ofNat 32 (win.route.val * s.layout.section + offset), data, .agent w.tag⟩
    let copies := copy b.primary :: (match b.extra with | some (_, q) => [copy q] | none => [])
    (st.openSlots.length < 4 →
      exec (.payloadWrite w) s = .next
        ((u.setSteer win.route { st with openSlots := st.openSlots ++ [record] }).offered w.tag false copies)) ∧
    (∀ o rest, st.openSlots = o :: rest → rest.length = 3 →
      exec (.payloadWrite w) s = .next
        ((submit
          ⟨.slotEvent, BitVec.ofNat 8 win.route.val, 1, stampWord s.reading 0,
            [u32 o.slot, u32 o.binding.primary.val,
             (match o.binding.extra with | none => 0 | some (.mirror, _) => 1 | some (.probe, _) => 2),
             (match o.binding.extra with | none => 255 | some (_, q) => u32 q.val),
             u32 o.opened.sec.toNat, u32 o.opened.ns, 255]⟩
          (u.setSteer win.route
            { st with openSlots := rest ++ [record], abandoned := min 4294967295 (st.abandoned + 1) })).offered
          w.tag false copies))

/-- A commit of a slot listed with one path numbers the frame, removes the record, and offers the ingress stamp ahead
of the copy, whose commit word carries the part's fields (R27, R28, R30, R31, R66). -/
def Obligations.CommitsAreNumberedStampedAndCounted : Prop :=
  ∀ (s : State) (w : WriteReq) (win : Window) (offset : Nat) (word : Word) (o : OpenSlot) (p : Fin 8),
    s.writeTo w .frameEngine .routeTx win offset → coveredWord (offset % s.layout.slot) w.beats 0 = some word →
    readyBit word = true → s.openSlot win.route (offset / s.layout.slot) = some o → o.binding = ⟨p, none⟩ →
    let r := win.route
    let st := s.steer[r]
    let off := offset % s.layout.slot
    let place := s.paths[p].set.txBase
    let stamp := stampWord s.reading p.val
    let data := replaceWord off (replaceWord off w.beats 0 (commitWord word r p s.pathSeq[p] st.seq false)) 1 stamp
    exec (.commit w) s = .next
      (({ s with
          steer := s.steer.set r
            { st with
              openSlots := st.openSlots.filter (fun x => x.slot != offset / s.layout.slot)
              seq := st.seq + 1, commits := min 4294967295 (st.commits + 1) }
          pathSeq := s.pathSeq.set p (s.pathSeq[p] + 1)
          paths := s.paths.set p
            { s.paths[p] with
              period := { s.paths[p].period with commits := min 4294967295 (s.paths[p].period.commits + 1) } } } : State).offered
        w.tag false
        [⟨place + BitVec.ofNat 32 (r.val * s.layout.section + (offset / s.layout.slot * s.layout.slot + 8)),
          [swapBeat win.swap ⟨stamp, 0xFF⟩], .agent w.tag⟩,
         ⟨place + BitVec.ofNat 32 (r.val * s.layout.section + offset), data.map (swapBeat win.swap), .agent w.tag⟩])

/-- A commit of a slot listed with two different paths: one route sequence, one path sequence for each copy, a stamp
ahead of each copy, primary first; the extra path counts a probe copy, or the route a mirrored commit (R27, R30, R31). -/
def Obligations.CommitsToTwoPathsShareTheRouteSequence : Prop :=
  ∀ (s : State) (w : WriteReq) (win : Window) (offset : Nat) (word : Word) (o : OpenSlot) (p q : Fin 8) (kind : ExtraKind),
    s.writeTo w .frameEngine .routeTx win offset → coveredWord (offset % s.layout.slot) w.beats 0 = some word →
    readyBit word = true → s.openSlot win.route (offset / s.layout.slot) = some o → o.binding = ⟨p, some (kind, q)⟩ →
    p ≠ q →
    let r := win.route
    let st := s.steer[r]
    let off := offset % s.layout.slot
    let stamp : Fin 8 → Word := fun x => stampWord s.reading x.val
    let copy : Fin 8 → List MemWrite := fun x =>
      [⟨s.paths[x].set.txBase + BitVec.ofNat 32 (r.val * s.layout.section + (offset / s.layout.slot * s.layout.slot + 8)),
        [swapBeat win.swap ⟨stamp x, 0xFF⟩], .agent w.tag⟩,
       ⟨s.paths[x].set.txBase + BitVec.ofNat 32 (r.val * s.layout.section + offset),
        (replaceWord off (replaceWord off w.beats 0 (commitWord word r x s.pathSeq[x] st.seq true)) 1 (stamp x)).map
          (swapBeat win.swap), .agent w.tag⟩]
    ∃ t, exec (.commit w) s = .next t ∧ t.offers = s.offers ++ [agentOffer w.tag false (copy p ++ copy q)] ∧
      (∀ x : Fin 8, t.pathSeq[x] = if x = p ∨ x = q then s.pathSeq[x] + 1 else s.pathSeq[x]) ∧
      (∀ x : Fin 8, t.paths[x] =
        { s.paths[x] with
          period :=
            { s.paths[x].period with
              commits := if x = p ∨ x = q then min 4294967295 (s.paths[x].period.commits + 1) else s.paths[x].period.commits
              probes :=
                if x = q ∧ kind = .probe then min 4294967295 (s.paths[x].period.probes + 1)
                else s.paths[x].period.probes } }) ∧
      (∀ x : Fin 4, t.steer[x] = if x = r then
        { st with
          openSlots := st.openSlots.filter (fun y => y.slot != offset / s.layout.slot)
          seq := st.seq + 1, commits := min 4294967295 (st.commits + 1)
          mirrored := if kind = .mirror then min 4294967295 (st.mirrored + 1) else st.mirrored } else s.steer[x]) ∧
      t = { s with bus := [], offers := t.offers, pathSeq := t.pathSeq, paths := t.paths, steer := t.steer }

/-- A commit to an unlisted slot asks for the route's targets, and does what a commit of the slot listed with the
answered paths does; no record is added (R29). -/
def Obligations.UnlistedCommitsBindAndClose : Prop :=
  ∀ (s u : State) (w : WriteReq) (win : Window) (offset : Nat) (word : Word) (b : Binding),
    s.writeTo w .frameEngine .routeTx win offset → coveredWord (offset % s.layout.slot) w.beats 0 = some word →
    readyBit word = true → s.openSlot win.route (offset / s.layout.slot) = none → s.targets win.route = (some b, u) →
    let st := s.steer[win.route]
    exec (.commit w) s =
      exec (.commit w)
        (u.setSteer win.route { st with openSlots := st.openSlots ++ [⟨offset / s.layout.slot, b, s.tb.time⟩] })

/-- The words and counts the part writes, field by field. In a slot: the commit word of a copy, every other bit as the frame
engine wrote it (R28), a stamp (R65) and the report-back word (R71), in the layouts of R80. A reading of the Time Base, with
its quality (R54, R55). What a read under departure
processing adds to its path's counts (R72, R98). A ring record: its header, its stamp word and its twelve payload fields
(R83). A result word (R82). The TIME_EVENT records of one event, each with the state as it stands and the overcapture flag,
which the first clears (R53). -/
def Obligations.SlotWordFields : Prop :=
  (∀ (word : BitVec 64) (r : Fin 4) (q : Fin 8) (pathSeq : BitVec 16) (routeSeq : BitVec 24) (mirrored : Bool),
    let c := commitWord word r q pathSeq routeSeq mirrored
    c.extractLsb' 0 17 = word.extractLsb' 0 17 ∧ c.getLsbD 17 = false ∧ c.getLsbD 18 = mirrored ∧
      (c.extractLsb' 19 2).toNat = r.val ∧ (c.extractLsb' 21 3).toNat = q.val ∧ c.extractLsb' 24 16 = pathSeq ∧
      c.extractLsb' 40 24 = routeSeq) ∧
  (∀ (r : Reading) (p : Fin 8), r.time.ns < 1000000000 →
    let w := stampWord r p.val
    w.extractLsb' 0 27 = r.time.sec.setWidth 27 ∧ (w.extractLsb' 27 30).toNat = r.time.ns ∧
      w.extractLsb' 57 2 = r.epoch ∧
      (w.extractLsb' 59 2).toNat =
        (match r.quality with | .unset => 0 | .free => 1 | .holdover => 2 | .locked => 3) ∧
      (w.extractLsb' 61 3).toNat = p.val) ∧
  (∀ s : State, s.reading = ⟨s.tb.time, s.tb.epoch,
    if s.tb.secondsSet = false then .unset
    else match s.tb.ref with | .free => .free | .acquiring => .holdover | .holdover => .holdover | .locked => .locked⟩) ∧
  (∀ x : PathRecord,
    let w := reportBackWord x
    (w.extractLsb' 46 8).toNat = min 255 x.lastLosses ∧
      (w.extractLsb' 54 3).toNat =
        (match x.state with
         | .disabled => 0 | .probation => 1 | .up => 2 | .fading => 3 | .down => 4 | .cut => 5) ∧
      w.getLsbD 57 = x.est.isSome ∧
      (∀ e, x.est = some e →
        (w.extractLsb' 0 30).toNat = min 1073741823 (e / 16) ∧ (w.extractLsb' 30 16).toNat = min 65535 (x.jit / 16) ∧
          (w.extractLsb' 58 6).toNat = min 63 x.rxAge) ∧
      (x.est = none → w.extractLsb' 0 46 = 0 ∧ w.extractLsb' 58 6 = 0)) ∧
  (∀ (c : PathCounts) (departure : Bool) (dwell : Option Nat),
    outcomeCounts .blanked c = { c with blanked := min 4294967295 (c.blanked + 1) } ∧
      outcomeCounts .expired c = { c with expired := min 4294967295 (c.expired + 1) } ∧
      outcomeCounts (.passed departure dwell) c =
        { c with
          departures := if departure then min 4294967295 (c.departures + 1) else c.departures
          dwellSum := match dwell with | some n => min 18446744073709551615 (c.dwellSum + n) | none => c.dwellSum
          dwellCount := match dwell with | some _ => min 4294967295 (c.dwellCount + 1) | none => c.dwellCount
          dwellMax := match dwell with | some n => max c.dwellMax n | none => c.dwellMax }) ∧
  (∀ (r : Report) (number : BitVec 16) (drops : Nat), drops ≤ 65535 →
    let words := recordWords r number drops
    words.length = 8 ∧ words[1]? = some r.stamp ∧
      (∀ k, k < 6 → ∃ v : BitVec 64, words[k + 2]? = some v ∧ v.extractLsb' 0 32 = r.fields.getD (2 * k) 0 ∧
        v.extractLsb' 32 32 = r.fields.getD (2 * k + 1) 0) ∧
      ∃ h : BitVec 64, words[0]? = some h ∧
        (h.extractLsb' 0 8).toNat =
          (match r.kind with
           | .pathState => 1 | .routeChange => 2 | .timeEvent => 3 | .slotEvent => 4 | .routeResync => 5
           | .memoryError => 6 | .pathRxStats => 7 | .pathTxStats => 8 | .routeStats => 9) ∧
        h.getLsbD 8 = decide (0 < drops) ∧
        h.getLsbD 9 = (r.kind == .pathState || r.kind == .routeChange || r.kind == .timeEvent) ∧
        h.extractLsb' 10 6 = 0 ∧ h.extractLsb' 16 16 = number ∧ (h.extractLsb' 32 16).toNat = drops ∧
        h.extractLsb' 48 8 = r.source ∧ h.extractLsb' 56 8 = r.cause) ∧
  (∀ (label opcode : BitVec 8) (status : Status) (detail : Nat), detail ≤ 65535 →
    let w := resultWord label opcode status detail
    w.extractLsb' 0 8 = label ∧ w.extractLsb' 8 8 = opcode ∧
      (w.extractLsb' 16 8).toNat =
        (match status with
         | .done => 0 | .doneClamped => 1 | .badCommand => 2 | .badArgument => 3 | .locked => 4 | .busy => 5
         | .lineActive => 6) ∧
      (w.extractLsb' 24 16).toNat = detail ∧ w.extractLsb' 40 24 = 0) ∧
  ∀ (s : State) (e : Int) (cause : TimeCause) (causes : List TimeCause),
    let b := s.tb
    timeEvents [] e s = s ∧
      timeEvents (cause :: causes) e s = timeEvents causes e (submit
        ⟨.timeEvent, 0,
          (match cause with
           | .step => 1 | .locked => 2 | .unlocked => 3 | .holdover => 4 | .free => 5 | .stray => 6 | .rateClamp => 7),
          stampWord s.reading 0,
          [(match b.ref with | .free => 0 | .acquiring => 1 | .locked => 2 | .holdover => 3), BitVec.ofInt 32 e,
           BitVec.ofInt 32 b.rate, u32 b.epoch.toNat, (if b.overcapture then 1 else 0)]⟩
        (s.setTb { b with overcapture := false }))

/-- A route window read goes to the primary path of an open slot, else to the active path, and is answered with
zeros, without a memory access, when the slot is unlisted and the route has no active path, in its place behind the earlier
reads (R13, R3). That a slot still listed while its route is in DARK is read from its primary path is the model's reading
(log 38). -/
def Obligations.SlotReadsFollowTheBinding : Prop :=
  ∀ (s : State) (r : ReadReq) (win : Window) (offset : Nat), s.portFree → inBlock r.addr r.enables.length →
    s.classify r.addr = .window win offset → win.kind = .routeTx →
    let place : Fin 8 → Addr := fun q =>
      s.paths[q].set.txBase + BitVec.ofNat 32 (win.route.val * s.layout.section + offset)
    (∀ o, s.openSlot win.route (offset / s.layout.slot) = some o →
      exec (.slotRead r) s = .next (s.readAccepted r.tag (place o.binding.primary) r.enables win.swap none)) ∧
    (s.openSlot win.route (offset / s.layout.slot) = none → ∀ a, s.routes[win.route].chosen.active = some a →
      exec (.slotRead r) s = .next (s.readAccepted r.tag (place a) r.enables win.swap none)) ∧
    (s.openSlot win.route (offset / s.layout.slot) = none → s.routes[win.route].chosen.active = none → s.reads = [] →
      exec (.slotRead r) s = .next
        { s with bus := beatsOut r.tag false true (List.replicate r.enables.length 0), nextRead := s.nextRead + 1 }) ∧
    (s.openSlot win.route (offset / s.layout.slot) = none → s.routes[win.route].chosen.active = none →
      ∀ x later, s.reads = x :: later → x.answer = none →
      exec (.slotRead r) s = .next
        { s with
          bus := [], nextRead := s.nextRead + 1
          reads := s.reads ++
            [⟨s.nextRead, r.tag, r.enables.length, win.swap, true, none, some (Vector.replicate 8 0, false)⟩] })

/-! ### Stamps and slot words -/

/-- A read of a path's own modem that covers word 0, 2 or 3 is under departure processing: its reading, the path's
health, its settings and its report-back word are fixed at acceptance; any other read of the window is translated and
nothing more (R67, R14). -/
def Obligations.DepartureReadsAreFixedAtAcceptance : Prop :=
  ∀ (s : State) (r : ReadReq) (win : Window) (offset : Nat), s.portFree → inBlock r.addr r.enables.length →
    s.classify r.addr = .window win offset → win.kind = .pathTx →
    let p := win.path
    let x := s.paths[p]
    let first := offset % s.layout.section % s.layout.slot / 8
    let covers := fun w => decide (first ≤ w ∧ w < first + r.enables.length)
    let own := s.agents[r.tag].role = .modem ∧ s.agents[r.tag].path = p
    let place := x.set.txBase + BitVec.ofNat 32 offset
    (own → (covers 0 || covers 2 || covers 3) = true →
      exec (.departureRead r) s = .next (s.readAccepted r.tag place r.enables win.swap
        (some ⟨p, s.reading, x.state, x.set.behaviour, x.set.maxDwell, x.set.txLead, reportBackWord x, first⟩))) ∧
    (¬ own ∨ (covers 0 || covers 2 || covers 3) = false →
      exec (.departureRead r) s = .next (s.readAccepted r.tag place r.enables win.swap none))

/-- The answer to the oldest accepted read, under departure processing, while no later one has its answer: the read data
go back with what departure processing makes of them, and the path's counts take the outcome; with a memory error the
data go back as they are and nothing is counted, but the error is reported (R68 to R72, R17). -/
def Obligations.DepartureReadsReturnProcessed : Prop :=
  ∀ (s : State) (rec : ReadRec) (d : Departure) (m : MemRead) (rest : List MemRead) (words : ReadWords),
    ∀ later : List ReadRec, s.reads = rec :: later → (∀ x ∈ later, x.id ≠ rec.id ∧ x.answer = none) →
    rec.departure = some d → s.readIssued = m :: rest → m.ref = .agent rec.id →
    let view := (words.toList.take rec.count).map (fun w => if rec.swap then swapBytes w else w)
    exec (.departureReadData words false) s = .next
        { s with
          bus := beatsOut rec.tag false rec.last (departureData d view)
          reads := later, readIssued := rest
          paths := s.paths.set d.path
            { s.paths[d.path] with period := outcomeCounts (departureOutcome d view) s.paths[d.path].period } } ∧
      exec (.departureReadData words true) s = .next
        { submit ⟨.memoryError, 0, 1, stampWord s.reading 0, [m.addr, u32 rec.tag.val]⟩ s with
          bus := beatsOut rec.tag true rec.last view, reads := later, readIssued := rest }

/-- What departure processing makes of a read's data. A commit word that returns ready is blanked for cut if the path was
CUT with behaviour BLANK, else expired if the read covers word 1 and the wait exceeds the maximum dwell; only bit 16 of word
0 changes then (R68, R69). Any other read returns the departure stamp at word 2 and the report-back word at word 3, where it
covers them, and every other word as memory holds it; a departure is counted for word 2, and a dwell sample when it covers
word 1 too (R70, R71, R72). A read that does not cover word 0 is never blanked or expired, and one that does not
cover word 1 or word 2 gives no dwell sample (R68, R69, R72). -/
def Obligations.DepartureProcessingOfTheData : Prop :=
  (∀ (d : Departure) (word : Word) (rest : List Word), d.firstWord = 0 →
    let ws := word :: rest
    let blanked := d.health = .cut ∧ d.behaviour = .blank ∧ word.getLsbD 16 = true
    let expired := word.getLsbD 16 = true ∧ ∃ stamp, rest[0]? = some stamp ∧ (d.maxDwell : Int) < sinceStamp d.reading stamp
    (departureOutcome d ws = .blanked ↔ blanked) ∧ (departureOutcome d ws = .expired ↔ ¬ blanked ∧ expired) ∧
      (blanked ∨ expired → ∃ v : BitVec 64, departureData d ws = v :: rest ∧
        ∀ i, i < 64 → v.getLsbD i = (word.getLsbD i && i != 16))) ∧
  (∀ (d : Departure) (ws : List Word), 1 ≤ d.firstWord →
    departureOutcome d ws ≠ .blanked ∧ departureOutcome d ws ≠ .expired) ∧
  ∀ (d : Departure) (ws : List Word), departureOutcome d ws ≠ .blanked → departureOutcome d ws ≠ .expired →
    let t := d.reading.time
    let stamped : Time :=
      if t.ns + d.txLead < 1000000000 then ⟨t.sec, t.ns + d.txLead, t.frac⟩
      else ⟨t.sec + 1, t.ns + d.txLead - 1000000000, t.frac⟩
    (∀ i, (departureData d ws)[i]? =
      if d.firstWord + i = 2 then ws[i]?.map (fun _ => stampWord { d.reading with time := stamped } d.path.val)
      else if d.firstWord + i = 3 then ws[i]?.map (fun _ => d.reportBack)
      else ws[i]?) ∧
    ∀ departure dwell, departureOutcome d ws = .passed departure dwell →
      (departure = true ↔ ∃ i v, d.firstWord + i = 2 ∧ ws[i]? = some v) ∧
      (∀ i j v2 v1, d.firstWord + i = 2 → ws[i]? = some v2 → d.firstWord + j = 1 → ws[j]? = some v1 →
        dwell = some (max 0 (min (sinceStamp d.reading v1) 4294967295)).toNat) ∧
      ((∀ i, d.firstWord + i = 1 → ws[i]? = none) ∨ (∀ i, d.firstWord + i = 2 → ws[i]? = none) → dwell = none)

/-- A modem's header write to its receive window that is no receive commit: the words it covers are placed in the
pending-arrival list, the oldest record making room in a full list, and the write itself travels unchanged (R74, R73). -/
def Obligations.HeaderWritesFillThePendingArrivals : Prop :=
  ∀ (s : State) (w : WriteReq) (win : Window) (offset : Nat),
    s.writeTo w .modem .pathRx win offset → s.agents[w.tag].path = win.path →
    isCommit (offset % s.layout.slot) w.beats = false →
    let p := win.path
    let slot := offset / s.layout.slot
    let w2 := coveredWord (offset % s.layout.slot) w.beats 2
    let w3 := coveredWord (offset % s.layout.slot) w.beats 3
    let list := s.arrivals[p]
    let written : MemWrite :=
      ⟨(s.paths[p].set.rxBase &&& ~~~63) + BitVec.ofNat 32 offset, w.beats.map (swapBeat win.swap), .agent w.tag⟩
    (w2 = none → w3 = none → exec (.arrivalHeaderWrite w) s = .next (s.offered w.tag false [written])) ∧
    (w2.isSome ∨ w3.isSome →
      (list.any (fun a => a.slot == slot) = true →
        exec (.arrivalHeaderWrite w) s = .next ((s.setArrivals p
          (list.map (fun a => if a.slot = slot then ⟨slot, w2.or a.word2, w3.or a.word3⟩ else a))).offered
          w.tag false [written])) ∧
      (list.any (fun a => a.slot == slot) = false → list.length < 4 →
        exec (.arrivalHeaderWrite w) s = .next
          ((s.setArrivals p (list ++ [⟨slot, w2, w3⟩])).offered w.tag false [written])) ∧
      (∀ o rest, list.any (fun a => a.slot == slot) = false → list = o :: rest → rest.length = 3 →
        exec (.arrivalHeaderWrite w) s = .next
          (({ s.setArrivals p (rest ++ [⟨slot, w2, w3⟩]) with
              overflows := s.overflows.set p (min 65535 (s.overflows[p] + 1)) } : State).offered
            w.tag false [written])))

/-- A receive commit is offered as two writes, the arrival stamp for word 4 and the commit with its dup verdict; the
slot's pending record is removed, and the Arrival Merger takes the delivery, whichever of the two deliveries is made
first: a free choice (R75, R76, R78, log 8). The path is handed what the delivery earns it (R150, R98), and a resync is
reported ROUTE_RESYNC (R151), where the write list has room for it behind the reports of a FAR_END change, of which there
are at most five. -/
def Obligations.ReceiveCommitsAreStampedAndMerged : Prop :=
  ∀ (s : State) (w : WriteReq) (p : Fin 8) (win : Window) (offset : Nat) (word : Word),
    s.receives w p win offset word →
    let off := offset % s.layout.slot
    let slot := offset / s.layout.slot
    let r : Fin 4 := ⟨(word.extractLsb' 19 2).toNat % 4, Nat.mod_lt _ (by decide)⟩
    let seq : BitVec 24 := word.extractLsb' 40 24
    let m := s.mergers[r]
    let c := s.paths[p].period
    let taken := m.take seq s.reading p
    let base := s.paths[p].set.rxBase &&& ~~~63
    let stamp := stampWord s.reading p.val
    let data := replaceWord off (replaceWord off w.beats 0 (setField word 17 1 (if taken.2 = .win then 0 else 1))) 4 stamp
    let resync := m.tracking = true ∧ (seq - m.newest).toInt ≤ -64 ∧ m.resyncCount ≤ min 255 (m.staleRun + 1)
    let resyncs : List ListItem → List ListItem := fun l =>
      l.filter (fun x => match x with | .record x => x.kind == .routeResync | .status => false)
    ∃ t, exec (.receiveCommit w) s = .next t ∧
      t.offers = s.offers ++ [agentOffer w.tag false
        [⟨base + BitVec.ofNat 32 (slot * s.layout.slot + 32), [swapBeat win.swap ⟨stamp, 0xFF⟩], .agent w.tag⟩,
         ⟨base + BitVec.ofNat 32 offset, data.map (swapBeat win.swap), .agent w.tag⟩]] ∧
      t.mergers = s.mergers.set r taken.1 ∧
      t.arrivals = s.arrivals.set p (s.arrivals[p].filter (fun a => a.slot != slot)) ∧
      (∀ x : Fin 8, x ≠ p → t.paths[x] = s.paths[x]) ∧
      (taken.2 = .win → t.paths[p].period.wins = min 4294967295 (c.wins + 1)) ∧
      (taken.2 ≠ .win → t.paths[p].period.wins = c.wins) ∧
      (∀ margin, taken.2 = .late margin → t.paths[p].period.lateCopies = min 4294967295 (c.lateCopies + 1) ∧
        t.paths[p].period.marginSum = max (-9223372036854775808) (min (c.marginSum + margin) 9223372036854775807)) ∧
      ((∀ margin, taken.2 ≠ .late margin) →
        t.paths[p].period.lateCopies = c.lateCopies ∧ t.paths[p].period.marginSum = c.marginSum) ∧
      (¬ resync → resyncs t.writeList = resyncs s.writeList) ∧
      (resync → s.rings[(0 : Fin 2)].mask.getLsbD 5 = false → (s.writeList.filter ListItem.isRecord).length ≤ 2 →
        resyncs t.writeList = resyncs s.writeList ++
          [.record ⟨.routeResync, BitVec.ofNat 8 r.val, 1, stampWord s.reading p.val,
            [u32 m.newest.toNat, u32 seq.toNat, u32 p.val, u32 m.resyncCount, u32 (min 4294967295 (m.stale + 1))]⟩]) ∧
      t = { s with
        bus := [], choice := s.choice + 1, offers := t.offers, mergers := t.mergers, arrivals := t.arrivals,
        paths := t.paths, routes := t.routes, rings := t.rings, writeList := t.writeList }

/-- What a receive commit brings its path. The sequence check (R90). The delay sample of word 2, taken from the write or from
the slot's pending record (R76): its four tests, the remembered epochs, the period counts and the RX view (R87, R88, R89,
R91); without a word 2 one discarded sample (R77). The report-back word of word 3: its count, the TX view (R94), and the
far-end condition with the move to DOWN of cause FAR_END (R111). Nothing else of the path's record changes but what the
Arrival Merger hands it. -/
def Obligations.SequenceGapsCountAsLosses : Prop :=
  ∀ (s : State) (w : WriteReq) (p : Fin 8) (win : Window) (offset : Nat) (word : Word),
    s.receives w p win offset word →
    let seq : BitVec 16 := word.extractLsb' 24 16
    let held := s.arrivals[p].find? (fun a => a.slot == offset / s.layout.slot)
    let w2 := (coveredWord (offset % s.layout.slot) w.beats 2).or (held.bind PendingArrival.word2)
    let w3 := (coveredWord (offset % s.layout.slot) w.beats 3).or (held.bind PendingArrival.word3)
    let x := s.paths[p]
    let e := s.estimator
    let now := s.reading
    ∃ (t : State) (y : PathRecord), exec (.receiveCommit w) s = .next t ∧ t.paths[p] = y ∧
      (x.expected = none → y.expected = some (seq + 1) ∧ y.updLosses = x.updLosses ∧
        y.period.losses = x.period.losses ∧ y.outOfOrder = x.outOfOrder) ∧
      (∀ next, x.expected = some next → (seq - next).toNat ≤ 32767 →
        y.expected = some (seq + 1) ∧ y.updLosses = min 4294967295 (x.updLosses + (seq - next).toNat) ∧
          y.period.losses = min 4294967295 (x.period.losses + (seq - next).toNat) ∧ y.outOfOrder = x.outOfOrder) ∧
      (∀ next, x.expected = some next → 32768 ≤ (seq - next).toNat →
        y.expected = some next ∧ y.updLosses = x.updLosses ∧ y.period.losses = x.period.losses ∧
          y.outOfOrder = min 65535 (x.outOfOrder + 1)) ∧
      (w2 = none → y.period.discarded = min 4294967295 (x.period.discarded + 1) ∧ y.period.samples = x.period.samples ∧
        y.period.minimum = x.period.minimum ∧ y.period.maximum = x.period.maximum ∧ y.period.sum = x.period.sum ∧
        y.est = x.est ∧ y.jit = x.jit ∧ y.rxCount = x.rxCount ∧ y.rxAge = x.rxAge ∧ y.farEpoch = x.farEpoch ∧
        y.nearEpoch = x.nearEpoch) ∧
      (∀ stamp : BitVec 64, w2 = some stamp →
        let d := sinceStamp now stamp
        let far : BitVec 2 := stamp.extractLsb' 57 2
        let trusted : BitVec 2 → Prop := fun q => q = 3 ∨ q = 2 ∧ e.acceptHoldover = true
        let valid := 0 ≤ d ∧ d ≤ e.maxPlausible ∧ trusted (stamp.extractLsb' 59 2) ∧
          trusted (match now.quality with | .unset => 0 | .free => 1 | .holdover => 2 | .locked => 3) ∧
          (∀ b, x.farEpoch = some b → b = far) ∧ ∀ b, x.nearEpoch = some b → b = now.epoch
        y.farEpoch = some far ∧
          (valid → y.nearEpoch = some now.epoch ∧ y.rxAge = 0 ∧ y.rxCount = min 4294967295 (x.rxCount + 1) ∧
            (x.est = none → y.est = some (16 * d.toNat) ∧ y.jit = 0) ∧
            (∀ est, x.est = some est →
              let diff : Int := 16 * d - est
              y.est = some (max 0 (min ((est : Int) + diff / 2 ^ e.k) (16 * e.maxPlausible))).toNat ∧
                y.jit = min 4294967295 ((x.jit : Int) + ((diff.natAbs : Int) - x.jit) / 2 ^ e.kj).toNat) ∧
            y.period.discarded = x.period.discarded ∧ y.period.samples = min 4294967295 (x.period.samples + 1) ∧
            y.period.minimum = some (min (x.period.minimum.getD d.toNat) d.toNat) ∧
            y.period.maximum = some (max (x.period.maximum.getD d.toNat) d.toNat) ∧
            y.period.sum = min 281474976710655 (x.period.sum + d.toNat)) ∧
          (¬ valid → y.nearEpoch = x.nearEpoch.map (fun _ => now.epoch) ∧
            y.period.discarded = min 4294967295 (x.period.discarded + 1) ∧ y.period.samples = x.period.samples ∧
            y.period.minimum = x.period.minimum ∧ y.period.maximum = x.period.maximum ∧ y.period.sum = x.period.sum ∧
            y.est = x.est ∧ y.jit = x.jit ∧ y.rxCount = x.rxCount ∧ y.rxAge = x.rxAge)) ∧
      (w3 = none → y.tx = x.tx ∧ y.period.reportBacks = x.period.reportBacks ∧ y.farEnd = x.farEnd ∧
        y.state = x.state ∧ y.lastCause = x.lastCause) ∧
      (∀ back : BitVec 64, w3 = some back →
        let code := (back.extractLsb' 54 3).toNat
        y.period.reportBacks = min 4294967295 (x.period.reportBacks + 1) ∧
          y.tx =
            (if back.getLsbD 57 then
              some ⟨(back.extractLsb' 0 30).toNat, (back.extractLsb' 30 16).toNat, (back.extractLsb' 58 6).toNat⟩
            else x.tx) ∧
          y.farEnd = (if 4 ≤ code then some 0 else if code = 0 then x.farEnd else none) ∧
          (y.state, y.lastCause) =
            if 4 ≤ code ∧ (x.state = .up ∨ x.state = .fading ∨ x.state = .probation) then (.down, 10)
            else (x.state, x.lastCause)) ∧
      y = { x with
        state := y.state, lastCause := y.lastCause, farEnd := y.farEnd, farEpoch := y.farEpoch, nearEpoch := y.nearEpoch
        belowFade := if y.state = x.state then x.belowFade else 0
        belowDown := if y.state = x.state then x.belowDown else 0
        aboveRecover := if y.state = x.state then x.aboveRecover else 0
        est := y.est, jit := y.jit, rxCount := y.rxCount, rxAge := y.rxAge, expected := y.expected
        outOfOrder := y.outOfOrder, updLosses := y.updLosses, tx := y.tx
        period :=
          { x.period with
            samples := y.period.samples, discarded := y.period.discarded, minimum := y.period.minimum
            maximum := y.period.maximum, sum := y.period.sum, losses := y.period.losses
            reportBacks := y.period.reportBacks, wins := y.period.wins, lateCopies := y.period.lateCopies
            marginSum := y.period.marginSum } }

/-! ### Delay measurement and path health -/

/-- The delay: the seconds difference modulo 2^27 read as signed, times 10^9, plus the difference of the nanoseconds
(R86). -/
def Obligations.DelayArithmetic : Prop :=
  ∀ (r : Reading) (stamp : BitVec 64),
    let secD := (stamp.extractLsb' 0 27).toNat
    let nsD := (stamp.extractLsb' 27 30).toNat
    let diff := (r.time.sec.toNat % 134217728 + 134217728 - secD) % 134217728
    let dsec : Int := if 67108864 ≤ diff then (diff : Int) - 134217728 else diff
    sinceStamp r stamp = dsec * 1000000000 + ((r.time.ns : Int) - nsD)

/-- A status word: stored with its level clamped, and outside DISABLED it restarts the timer and advances or clears the
three counters, in every state it leaves as it was; the write itself travels to the window's translation base (R103). -/
def Obligations.StatusWordsAreStoredAndCounted : Prop :=
  ∀ (s : State) (w : WriteReq) (p : Fin 8) (word : Word), s.statusWrite w p word →
    let x := s.paths[p]
    let rsl : Int := max (-1000) (min (word.extractLsb' 0 16).toInt 0)
    let lock := word.getLsbD 16
    let mod := (word.extractLsb' 17 4).toNat
    ∃ t, exec (.statusWord w) s = .next t ∧
      t.paths[p].lastRsl = rsl ∧ t.paths[p].lastLock = lock ∧ t.paths[p].lastStep = mod ∧
      (x.state = .disabled → t.paths[p] = { x with lastRsl := rsl, lastLock := lock, lastStep := mod }) ∧
      (x.state ≠ .disabled → t.paths[p].timer = some s.tb.runNs ∧
        (t.paths[p].state = x.state → t.paths[p] =
          { x with
            lastRsl := rsl, lastLock := lock, lastStep := mod, timer := some s.tb.runNs
            belowFade := if rsl < x.hs.fadeLevel ∨ mod < x.hs.minStep then min 255 (x.belowFade + 1) else 0
            belowDown := if rsl < x.hs.downLevel then min 255 (x.belowDown + 1) else 0
            aboveRecover :=
              if x.hs.recoverLevel ≤ rsl ∧ lock = true ∧ x.hs.minStep ≤ mod then min 255 (x.aboveRecover + 1) else 0 })) ∧
      (∀ q : Fin 8, q ≠ p → t.paths[q] = s.paths[q]) ∧
      (∀ win offset, s.classify w.addr = .window win offset →
        t.offers = s.offers ++ [agentOffer w.tag false
          [⟨(win.transBase &&& ~~~63) + BitVec.ofNat 32 offset, w.beats.map (swapBeat win.swap), .agent w.tag⟩]]) ∧
      t = { s with
        bus := [], offers := t.offers, paths := t.paths, routes := t.routes, rings := t.rings, writeList := t.writeList }

/-- A status word is judged by the path's state, the first case that applies: in UP (R104), in FADING (R105), in PROBATION
(R106), in DOWN (R107); in CUT and DISABLED it changes no state (R107, R103). A change makes the entry changes of the new
state on the record the word has fed (R103, R112), and its PATH_STATE report enters the write list ahead of any report of its
reselections (R116). -/
def Obligations.StatusWordsAreJudgedByState : Prop :=
  ∀ (s : State) (w : WriteReq) (p : Fin 8) (word : Word), s.statusWrite w p word →
    let x := s.paths[p]
    let rsl : Int := max (-1000) (min (word.extractLsb' 0 16).toInt 0)
    let lock := word.getLsbD 16
    let mod := (word.extractLsb' 17 4).toNat
    let down := if rsl < x.hs.downLevel then min 255 (x.belowDown + 1) else 0
    let fade := if rsl < x.hs.fadeLevel ∨ mod < x.hs.minStep then min 255 (x.belowFade + 1) else 0
    let recovered :=
      if x.hs.recoverLevel ≤ rsl ∧ lock = true ∧ x.hs.minStep ≤ mod then min 255 (x.aboveRecover + 1) else 0
    let fed : PathRecord :=
      { x with
        lastRsl := rsl, lastLock := lock, lastStep := mod, timer := some s.tb.runNs, belowFade := fade, belowDown := down
        aboveRecover := recovered }
    let verdict : Health × Nat :=
      match x.state with
      | .up =>
        if lock = false then (Health.down, 7)
        else if x.hs.nDown ≤ down then (Health.down, 6)
        else if x.hs.nFade ≤ fade then (Health.fading, 4)
        else (Health.up, x.lastCause)
      | .fading =>
        if lock = false then (Health.down, 7)
        else if x.hs.nDown ≤ down then (Health.down, 6)
        else if x.hs.nRecover ≤ recovered ∧ x.lastLosses < x.hs.lossFade then (Health.up, 12)
        else (Health.fading, x.lastCause)
      | .probation =>
        if lock = false then (Health.down, 7)
        else if x.hs.nDown ≤ down then (Health.down, 6)
        else if x.hs.nFade ≤ fade then (Health.down, 11)
        else (Health.probation, x.lastCause)
      | .down =>
        if x.hs.nRecover ≤ recovered ∧ x.farEnd = none then (Health.probation, 13) else (Health.down, x.lastCause)
      | .cut => (Health.cut, x.lastCause)
      | .disabled => (Health.disabled, x.lastCause)
    ∃ t, exec (.statusWord w) s = .next t ∧ (t.paths[p].state, t.paths[p].lastCause) = verdict ∧
      (verdict.1 = x.state → t.routes = s.routes ∧ t.rings = s.rings ∧ t.writeList = s.writeList) ∧
      (verdict.1 ≠ x.state →
        t.paths[p] = fed.entered s.tb.runNs verdict.1 verdict.2 ∧
        (s.rings[(0 : Fin 2)].mask.getLsbD 1 = false → (s.writeList.filter ListItem.isRecord).length < 8 →
          ∃ rest, t.writeList = s.writeList ++ .record (s.changeReport p x.state t.paths[p]) :: rest))

/-- The expiry of a status timer stops the timer; a path in service goes DOWN with cause STATUS_TIMEOUT and its counters
cleared, any other stays as it is (R108, R112); a timer that has not expired changes nothing (the model's choice, log 2).
The change's PATH_STATE report enters the write list ahead of any report of its reselections (R116). -/
def Obligations.StatusTimersExpire : Prop :=
  ∀ (s : State) (p : Fin 8),
    let x := s.paths[p]
    (∀ start, x.timer = some start → start + x.hs.timeout * 1000000 ≤ s.tb.runNs →
      ∃ t, exec (.statusTimerExpiry p) s = .next t ∧
        (x.state = .up ∨ x.state = .fading ∨ x.state = .probation →
          t.paths[p] =
            { x with timer := none, state := .down, lastCause := 8, belowFade := 0, belowDown := 0, aboveRecover := 0 }) ∧
        (x.state = .down ∨ x.state = .cut ∨ x.state = .disabled → t.paths[p] = { x with timer := none } ∧
          t.routes = s.routes ∧ t.rings = s.rings ∧ t.writeList = s.writeList) ∧
        (x.state = .up → s.rings[(0 : Fin 2)].mask.getLsbD 1 = false → (s.writeList.filter ListItem.isRecord).length < 8 →
          ∃ rest, t.writeList = s.writeList ++
            .record ⟨.pathState, BitVec.ofNat 8 p.val, 8, stampWord s.reading p.val,
              [2, 4, (match x.set.cls with | .mw => 0 | .mmw => 1 | .fibre => 2), (if x.set.standby then 1 else 0),
               BitVec.ofInt 32 x.lastRsl, (if x.lastLock then 1 else 0), u32 x.lastStep, u32 x.updLosses,
               (if x.farEnd.isSome then 1 else 0)]⟩ :: rest) ∧
        (∀ q : Fin 8, q ≠ p → t.paths[q] = s.paths[q]) ∧
        t = { s with bus := [], paths := t.paths, routes := t.routes, rings := t.rings, writeList := t.writeList }) ∧
    (x.timer = none ∨ (∃ start, x.timer = some start ∧ s.tb.runNs < start + x.hs.timeout * 1000000) →
      exec (.statusTimerExpiry p) s = .next { s with bus := [] })

/-- PROBATION_COUNTDOWN_END is the end of the countdown at the due update event, which the row takes (log 3): a
countdown of 1 is judged after the loss check, UP with cause PROBATION_PASSED if the path has its samples or a fresh TX
view, else another probation without a report (R110). FAR_END_LAPSE is the lapse at the due update event of a condition
whose age comes to exceed REPORT_STALE, or to reach 255, there (R111); a condition whose age already calls for it, under
a REPORT_STALE lowered since, clears as soon as the row comes (the model's reading, log 30). A row whose event is not
due changes nothing (the model's choice, log 2). -/
def Obligations.ProbationsEndAndFarEndConditionsLapse : Prop :=
  ∀ (s : State) (p : Fin 8),
    let x := s.paths[p]
    let stale := s.estimator.reportStale
    let takesTheUpdate : Instr → State → Prop := fun i t =>
      exec i s = .next t ∧ exec .boundary s = .next t ∧
        (¬ (x.state = .cut ∧ x.set.autoRelease = true ∧ s.cut.level = false) →
          t.paths[p] = { x.monitored stale with period := x.period.after (decide (s.tb.stats = 1)) }) ∧
        t = { s with
          bus := [], choice := s.choice + 1, tb := t.tb, windows := t.windows, steer := t.steer, paths := t.paths
          routes := t.routes, mergers := t.mergers, rings := t.rings, writeList := t.writeList }
    (x.state = .probation → x.countdown = 1 → s.updateDue →
      ∃ t, takesTheUpdate (.probationCountdownEnd p) t ∧
        (x.hs.lossDown ≤ x.updLosses → t.paths[p].state = .down ∧ t.paths[p].lastCause = 9) ∧
        (x.updLosses < x.hs.lossDown → x.hs.minSamples ≤ x.rxCount ∨ (∃ v, x.tx = some v ∧ v.age ≤ stale) →
          t.paths[p].state = .up ∧ t.paths[p].lastCause = 14) ∧
        (x.updLosses < x.hs.lossDown → x.rxCount < x.hs.minSamples → (∀ v, x.tx = some v → stale < v.age) →
          t.paths[p].state = .probation ∧ t.paths[p].countdown = x.hs.probation ∧
            t.paths[p].lastCause = x.lastCause)) ∧
    (x.state ≠ .probation ∨ 2 ≤ x.countdown ∨ x.countdown = 1 ∧ ¬ s.updateDue →
      exec (.probationCountdownEnd p) s = .next { s with bus := [] }) ∧
    (∀ age, x.farEnd = some age →
      (age ≤ stale → age < 255 → stale < age + 1 ∨ 255 ≤ age + 1 → s.updateDue →
        ∃ t, takesTheUpdate (.farEndLapse p) t ∧ t.paths[p].farEnd = none) ∧
      (stale < min 255 age ∨ 255 ≤ age →
        exec (.farEndLapse p) s = .next { s with bus := [], paths := s.paths.set p { x with farEnd := none } })) ∧
    (x.farEnd = none ∨ (∃ age, x.farEnd = some age ∧ age < 255 ∧
        (age + 1 ≤ stale ∧ age + 1 < 255 ∨ age ≤ stale ∧ ¬ s.updateDue)) →
      exec (.farEndLapse p) s = .next { s with bus := [] })

/-- A cut edge: the filtered level becomes asserted, and every cut-enabled path in PROBATION, UP, FADING or DOWN enters
CUT with cause CUT_LINE, its counters and its probation countdown cleared; every other path is unchanged (R154, R155). -/
def Obligations.CutEdgesCutEveryEnabledPath : Prop :=
  ∀ s : State, s.cut.level = false → 3 ≤ s.cut.run →
    ∃ t, exec .cutEdge s = .next t ∧ t.cut = ⟨true, 0⟩ ∧
      (∀ p : Fin 8,
        let x := s.paths[p]
        t.paths[p] =
          if x.set.cutEnable = true ∧ x.state ≠ .cut ∧ x.state ≠ .disabled then
            { x with state := .cut, lastCause := 15, belowFade := 0, belowDown := 0, aboveRecover := 0, countdown := 0 }
          else x) ∧
      t = { s with
        bus := [], cut := t.cut, paths := t.paths, routes := t.routes, rings := t.rings, writeList := t.writeList }

/-! ### Route selection -/

/-- The best of some candidates is one of them, none ranks before it, and every earlier one ranks behind it (R124); the
full selection takes the first of its five cases that applies (R125); a change of a path's state reselects every route
that names the path, routes 0 to 3 in turn, behind the entry changes of the new state and its PATH_STATE report (R112,
R116, R126), by the table of the route's mode (R127 to R130); and a route whose mode, active or secondary path changes
reports ROUTE_CHANGE and counts a change of its mode (R136, R137). -/
def Obligations.FullSelectionTakesTheFirstCase : Prop :=
  (∀ (s : State) (ps : List (Fin 8)),
    (s.best ps = none ↔ ps = []) ∧
      ∀ q, s.best ps = some q → ∃ i : Nat, ps[i]? = some q ∧
        (∀ p ∈ ps, ranksBefore (s.metricOf p) (s.metricOf q) = false) ∧
        (∀ (j : Nat) p, j < i → ps[j]? = some p → ranksBefore (s.metricOf q) (s.metricOf p) = true)) ∧
  (∀ (s : State) (rt : RouteRecord),
    let up := fun (standby : Bool) => (rt.live.filter (fun c => c.standby == standby && s.paths[c.path].state == .up)).map Candidate.path
    let keeps := fun (a : Fin 8) =>
      rt.chosen.active = some a ∧ (∃ c ∈ rt.live, c.path = a ∧ c.standby = false) ∧ s.paths[a].state = .fading
    (up false ≠ [] → s.fullSelection rt = ⟨.single, s.best (up false), none⟩) ∧
    (up false = [] → ∀ a, keeps a →
      (up true ≠ [] → s.fullSelection rt = ⟨.mirror, some a, s.best (up true)⟩) ∧
      (up true = [] → s.fullSelection rt = ⟨.single, some a, none⟩)) ∧
    (up false = [] → (∀ a, ¬ keeps a) →
      (up true ≠ [] → s.fullSelection rt = ⟨.fallback, s.best (up true), none⟩) ∧
      (up true = [] → s.fullSelection rt = ⟨.dark, none, none⟩))) ∧
  (∀ (s : State) (rt : RouteRecord) (q : Fin 8) (old new : Health),
    let ups := fun (standby : Bool) (a : Fin 8) =>
      (rt.live.filter (fun c => c.standby == standby && s.paths[c.path].state == .up && c.path != a)).map Candidate.path
    let named := fun (p : Fin 8) (standby : Bool) => rt.live.any (fun c => c.path == p && c.standby == standby)
    let mirrored : Fin 8 → Choice := fun a =>
      match (s.best (ups false a)).or (s.best (ups true a)) with
      | some b => ⟨.mirror, some a, some b⟩
      | none => ⟨.single, some a, none⟩
    let lost := new == .down || new == .cut || new == .disabled
    let full := s.fullSelection rt
    (∀ a, rt.chosen = ⟨.single, some a, none⟩ → s.reselection rt q old new =
      if q = a then
        if lost then some (.activeLost, full)
        else if old = .up ∧ new = .fading then some (.activeFading, mirrored a)
        else none
      else if new = .up ∧ s.paths[a].state = .fading then some (.candidateUp, mirrored a)
      else none) ∧
    (∀ a b, rt.chosen = ⟨.mirror, some a, some b⟩ → s.reselection rt q old new =
      if q = a then
        if lost then some (.activeLost, full)
        else if new = .up then some (.activeRecovered, ⟨.single, some a, none⟩)
        else none
      else if q = b then
        if old = .up ∧ new ≠ .up then some (.secondaryLost, mirrored a) else none
      else if new = .up ∧ named b true = true ∧ named q false = true then
        some (.secondaryImproved, ⟨.mirror, some a, s.best (ups false a)⟩)
      else none) ∧
    (∀ a, rt.chosen = ⟨.fallback, some a, none⟩ → s.reselection rt q old new =
      if q = a ∧ new ≠ .up then some (.activeLost, full) else none) ∧
    (rt.chosen = ⟨.dark, none, none⟩ → s.reselection rt q old new =
      if new = .up then some (.candidateUp, full) else none)) ∧
  (∀ (s : State) (r : Fin 4) (cause : RouteCause) (causing : Option (Fin 8)) (new : Choice),
    let rt := s.routes[r]
    let mode : Mode → BitVec 32 := fun m => match m with | .single => 0 | .mirror => 1 | .fallback => 2 | .dark => 3
    let path : Option (Fin 8) → BitVec 32 := fun o => match o with | some q => u32 q.val | none => 255
    let metric : Option (Fin 8) → BitVec 32 := fun o =>
      match o.bind s.metricOf with | some n => u32 n | none => 4294967295
    (new = rt.chosen → choose r cause causing new s = s) ∧
    (new ≠ rt.chosen → choose r cause causing new s = submit
      ⟨.routeChange, BitVec.ofNat 8 r.val,
        (match cause with
         | .listApplied => 1 | .standbyChanged => 2 | .activeFading => 3 | .activeLost => 4 | .activeRecovered => 5
         | .secondaryLost => 6 | .secondaryImproved => 7 | .candidateUp => 8 | .rerank => 9 | .fallbackReturn => 10),
        stampWord s.reading 0,
        [mode new.mode, path new.active, path new.secondary, mode rt.chosen.mode, path rt.chosen.active,
         path rt.chosen.secondary, path causing, metric new.active, metric rt.chosen.active]⟩
      (s.setRouteRec r
        { rt with
          chosen := new
          modeChanges := if new.mode = rt.chosen.mode then rt.modeChanges else min 4294967295 (rt.modeChanges + 1) }))) ∧
  ∀ (s : State) (q : Fin 8) (old new : Health) (cause : PathCause),
    (∀ r : Fin 4, reselectRoute q old new r s =
      if s.routes[r].live.any (fun c => c.path == q) then
        match s.reselection s.routes[r] q old new with
        | some (routeCause, c) => choose r routeCause (some q) c s
        | none => s
      else s) ∧
    reselect q old new s =
      reselectRoute q old new 3 (reselectRoute q old new 2 (reselectRoute q old new 1 (reselectRoute q old new 0 s))) ∧
    let y := s.paths[q].entered s.tb.runNs new
      (match cause with
       | .enabled => 1 | .adminDisable => 2 | .forced => 3 | .fadeLevel => 4 | .lossFade => 5 | .downLevel => 6
       | .lockLost => 7 | .statusTimeout => 8 | .lossDown => 9 | .farEnd => 10 | .fadeInProbation => 11
       | .recovered => 12 | .recoverLevel => 13 | .probationPassed => 14 | .cutLine => 15 | .generated => 16
       | .released => 17 | .autoRelease => 18)
    enterState q new cause s =
      reselect q s.paths[q].state new (submit (s.changeReport q s.paths[q].state y) (s.setPathRec q y))

/-- The targets of a slot: none in DARK, the active with the secondary in MIRROR, the active with a probe or alone in
SINGLE and FALLBACK (R133). A probe goes first to a candidate on probation, else, when the countdown of a positive interval
has run out, to another UP or FADING candidate; the cursor moves past the chosen one, and only a remeasurement reloads the
countdown. A search from the cursor looks at each position once, upward from the cursor and round, and takes the first
candidate that suits (R134). -/
def Obligations.TargetsFollowTheMode : Prop :=
  (∀ (live : List Candidate) (cursor : Nat) (suits : Candidate → Bool),
    let first := if cursor < live.length then cursor else 0
    (searchFrom live cursor suits = none ↔ ∀ c ∈ live, suits c = false) ∧
    ∀ q next, searchFrom live cursor suits = some (q, next) →
      ∃ (turn : Nat) (c : Candidate), turn < live.length ∧ live[(first + turn) % live.length]? = some c ∧ c.path = q ∧
        suits c = true ∧ next = ((first + turn) % live.length + 1) % live.length ∧
        ∀ earlier, earlier < turn → ∀ d, live[(first + earlier) % live.length]? = some d → suits d = false) ∧
  ∀ (s : State) (r : Fin 4),
    let rt := s.routes[r]
    (rt.chosen.mode = .dark → s.targets r = (none, s)) ∧
    (∀ a b, rt.chosen = ⟨.mirror, some a, some b⟩ → s.targets r = (some ⟨a, some (.mirror, b)⟩, s)) ∧
    (∀ a mode, rt.chosen = ⟨mode, some a, none⟩ → mode = .single ∨ mode = .fallback →
      let onProbation := searchFrom rt.live rt.cursor (fun c => c.path != a && s.paths[c.path].state == .probation)
      let usable := searchFrom rt.live rt.cursor
        (fun c => c.path != a && (s.paths[c.path].state == .up || s.paths[c.path].state == .fading))
      (∀ q next, onProbation = some (q, next) →
        s.targets r = (some ⟨a, some (.probe, q)⟩, s.setRouteRec r { rt with cursor := next })) ∧
      (onProbation = none → 0 < rt.interval → rt.countdown = 0 → ∀ q next, usable = some (q, next) →
        s.targets r =
          (some ⟨a, some (.probe, q)⟩, s.setRouteRec r { rt with cursor := next, countdown := rt.interval })) ∧
      (onProbation = none → ¬ (0 < rt.interval ∧ rt.countdown = 0) ∨ usable = none →
        s.targets r = (some ⟨a, none⟩, s)))

/-- The rank metric of a path: from the TX view while it is fresh, else from the RX view with the asymmetry offset while
it is current, else UNKNOWN (R95, R96); a lower one ranks before a higher, and any known one before UNKNOWN (R124). The
re-rank of a SINGLE route switches to the best other non-standby UP candidate when that one is lower by more than the
switch margin, or known where the active's metric is UNKNOWN, with its report, and in no other case; a route in another
mode is not re-ranked (R131, R132). -/
def Obligations.ReRankNeedsMoreThanTheMargin : Prop :=
  (∀ (s : State) (p : Fin 8),
    let x := s.paths[p]
    let e := s.estimator
    (∀ v, x.tx = some v → v.age ≤ e.reportStale → s.metricOf p = some (v.delay + e.w * v.jitter / 4)) ∧
    ((∀ v, x.tx = some v → e.reportStale < v.age) →
      (∀ est, x.est = some est → x.rxAge ≤ e.reportStale →
        s.metricOf p = some ((max 0 (((est / 16 : Nat) : Int) + x.set.asymmetry)).toNat + e.w * (x.jit / 16) / 4)) ∧
      (x.est = none ∨ e.reportStale < x.rxAge → s.metricOf p = none))) ∧
  (∀ m n : Option Nat, ranksBefore m n = true ↔ ∃ a, m = some a ∧ ∀ b, n = some b → a < b) ∧
  (∀ (s : State) (r : Fin 4), s.routes[r].chosen.mode ≠ .single → rerank r s = s) ∧
  ∀ (s : State) (r : Fin 4) (a : Fin 8), s.routes[r].chosen = ⟨.single, some a, none⟩ →
    let others :=
      (s.routes[r].live.filter (fun c => c.standby == false && s.paths[c.path].state == .up && c.path != a)).map Candidate.path
    (∀ b m, s.best others = some b → s.metricOf b = some m →
      (∀ n, s.metricOf a = some n → m + s.estimator.switchMargin < n) →
      (rerank r s).routes[r].chosen = ⟨.single, some b, none⟩ ∧
        rerank r s = choose r .rerank none ⟨.single, some b, none⟩ s) ∧
    (others = [] ∨
      (∃ b, s.best others = some b ∧ (s.metricOf b = none ∨
        ∃ m n, s.metricOf b = some m ∧ s.metricOf a = some n ∧ n ≤ m + s.estimator.switchMargin)) →
      rerank r s = s)

/-! ### Arrival merging -/

/-- A delivery to the Arrival Merger: the start of a window (R142), an advance (R143), a late first (R144), a late copy
(R145), a repeat (R146), a stale delivery (R147) and a resync (R148), told apart by the distance of R141. -/
def Obligations.DeliveriesFallInTheirCases : Prop :=
  ∀ (m : MergeRecord) (seq : BitVec 24) (rd : Reading) (p : Fin 8), m.table.length = 64 →
    let d : Int := (seq - m.newest).toInt
    let first : Arrival := ⟨true, rd.time.sec, rd.time.ns, p, false⟩
    let unseen : Arrival := ⟨false, 0, 0, 0, false⟩
    (m.tracking = false → m.take seq rd p =
      ({ m with tracking := true, newest := seq, table := List.replicate 63 unseen ++ [first], staleRun := 0 }, .win)) ∧
    (m.tracking = true → 1 ≤ d → ∃ table, m.take seq rd p = ({ m with newest := seq, table := table, staleRun := 0 }, .win) ∧
      table.length = 64 ∧ ∀ i : Nat, i < 64 →
        table[i]? = if i = 63 then some first else if i + d.toNat < 64 then m.table[i + d.toNat]? else some unseen) ∧
    (m.tracking = true → -63 ≤ d → d ≤ 0 → ∀ a, m.table[(63 + d).toNat]? = some a →
      (a.seen = false → m.take seq rd p = ({ m with table := m.table.set (63 + d).toNat first }, .win)) ∧
      (a.seen = true → a.late = false → m.take seq rd p =
        ({ m with table := m.table.set (63 + d).toNat { a with late := true } },
          .late (max (-2147483648)
            (min (((rd.time.sec.toNat : Int) - a.sec.toNat) * 1000000000 + ((rd.time.ns : Int) - a.ns)) 2147483647)))) ∧
      (a.seen = true → a.late = true → m.take seq rd p = ({ m with repeats := min 65535 (m.repeats + 1) }, .nothing))) ∧
    (m.tracking = true → d ≤ -64 →
      (min 255 (m.staleRun + 1) < m.resyncCount → m.take seq rd p =
        ({ m with stale := min 4294967295 (m.stale + 1), staleRun := min 255 (m.staleRun + 1) }, .nothing)) ∧
      (m.resyncCount ≤ min 255 (m.staleRun + 1) → m.take seq rd p =
        ({ m with
            newest := seq, table := List.replicate 63 unseen ++ [first], staleRun := 0
            stale := min 4294967295 (m.stale + 1), resyncs := min 4294967295 (m.resyncs + 1) }, .win)))

/-- Between two resyncs each sequence inside the window passes once with dup = 0: a delivery that wins is held by the
window, a delivery of a held sequence does not win, and the window goes on holding it while it lies inside (R149). -/
def Obligations.EachSequencePassesOnceInTheWindow : Prop :=
  ∀ (m : MergeRecord) (seq : BitVec 24) (rd : Reading) (p : Fin 8), m.table.length = 64 →
    let taken := m.take seq rd p
    taken.1.table.length = 64 ∧ (taken.2 = .win → taken.1.holds seq) ∧ (m.holds seq → taken.2 ≠ .win) ∧
      ∀ other, m.holds other → m.isResync seq = false →
        -63 ≤ distance taken.1.newest other → distance taken.1.newest other ≤ 0 → taken.1.holds other

/-! ### The Write Queue and the Memory Port -/

/-- The arbiter's turn: the oldest offer is admitted whole when its entries are free, and waits otherwise; an agent's write
is acknowledged at its admission, after which the requests that wait at the port are taken in order until a write is held
(R36, R2). The admission of a refusal ends its record, unless a newer refusal has replaced it since, which the Command Unit
offers next, ahead of the command's own word or result (R163; the replacement is log 14); a result's admission makes the
Command Unit IDLE (R163), a snapshot word's brings the next word, or the result (R172). What a request's row does is its
acceptance where nothing is ahead of it (R1, R4). -/
def Obligations.TheOldestOfferIsAdmittedWhole : Prop :=
  (∀ (s : State) (o : Offer) (os : List Offer), s.offers = o :: os →
    (64 < s.occupied + entriesOf o.writes → exec .offerAdmit s = .next { s with bus := [] }) ∧
    (s.occupied + entriesOf o.writes ≤ 64 →
      let admitted : State := { s with bus := [], offers := os, queue := s.queue ++ o.writes }
      (o.source = .report → exec .offerAdmit s = .next admitted) ∧
      (∀ tag acks managed, o.source = .agent tag acks managed →
        (managed = true → ∀ w ∈ o.writes, ∀ k, k = 0 ∨ k = 17 ∨ k = 18 ∨ k = 19 →
          coveredWord (w.addr - s.pageBase).toNat w.beats k = none) →
        exec .offerAdmit s =
          .next (pump s.portWaiting { admitted with bus := if acks then [.ack tag] else [] }).cuOffered) ∧
      (o.source = .refusal →
        (∀ r, s.cu.refusal = some r → r.offered = true →
          exec .offerAdmit s = .next { admitted with cu := { s.cu with refusal := none } }.cuOffered) ∧
        (s.cu.refusal = none ∨ (∃ r, s.cu.refusal = some r ∧ r.offered = false) →
          exec .offerAdmit s = .next admitted.cuOffered)) ∧
      (o.source = .snapshotWord → exec .offerAdmit s = .next admitted.cuOffered) ∧
      (o.source = .result → exec .offerAdmit s = .next { admitted with cu := { s.cu with state := .idle } }.cuOffered))) ∧
  ∀ s : State,
    (s.portOpen = true ↔
      (∀ o ∈ s.offers, ∀ tag acks managed, o.source ≠ .agent tag acks managed) ∧
        ∀ c, s.cu.state ≠ .executing c .draining) ∧
    pump [] s = { s with portWaiting := [] } ∧
    (∀ q qs, pump (q :: qs) s = if s.portOpen then pump qs (accept q s) else { s with portWaiting := q :: qs }) ∧
    (∀ w : WriteReq, wordAligned w.addr = w.addr →
      let n := beatsBelowBoundary w.addr
      exec (.translatedWrite w) s = .next (pump (s.portWaiting ++
        (if w.beats.length ≤ n then [.write w true]
        else
          [.write ⟨w.tag, w.addr, w.beats.take n⟩ false,
           .write ⟨w.tag, w.addr + BitVec.ofNat 32 (8 * n), w.beats.drop n⟩ true])) { s with bus := [] })) ∧
    ∀ r : ReadReq, wordAligned r.addr = r.addr →
      let n := beatsBelowBoundary r.addr
      exec (.translatedRead r) s = .next (pump (s.portWaiting ++
        (if r.enables.length ≤ n then [.read r true]
        else
          [.read ⟨r.tag, r.addr, r.enables.take n⟩ false,
           .read ⟨r.tag, r.addr + BitVec.ofNat 32 (8 * n), r.enables.drop n⟩ true])) { s with bus := [] })

/-- BUSY_REFUSAL presents its write and has it admitted in one step, where nothing is ahead of it and it fits (the model's
choice, log 4). A command write is taken at its admission: an IDLE Command Unit fetches, its argument read waiting for
the command write and every write before it; a busy one refuses it, and the refusal is offered at once where nothing
of the Command Unit's waits at the arbiter (R162, R163). The result record's lower word is offered first by the
model's choice (log 33). -/
def Obligations.CommandsAreTakenOrRefusedBusy : Prop :=
  ∀ (s : State) (w : WriteReq) (word : Word), coveredWord 0 w.beats 0 = some word → w.beats.length ≤ 8 →
    let written : MemWrite := ⟨s.pageBase, w.beats, .agent w.tag⟩
    let opcode : BitVec 8 := word.extractLsb' 0 8
    let label : BitVec 8 := word.extractLsb' 8 8
    (s.offers = [⟨.agent w.tag true true, [written]⟩] → s.occupied + (1 + w.beats.length) ≤ 64 → s.portWaiting = [] →
      s.cu.refusal = none → s.cu.state = .idle →
      exec .offerAdmit s = .next
        { s with
          bus := [.ack w.tag], offers := [], queue := s.queue ++ [written]
          readWait := s.readWait ++ [(⟨.argument, s.pageBase + 8, List.replicate 7 0xFF⟩, s.queue.length + 1)]
          cu := { s.cu with state := .fetching ⟨opcode, label, w.tag⟩ } }) ∧
    (s.pageWrite w 0 → s.cu.state ≠ .idle →
      exec (.busyRefusal w) s = .next
        { s with
          bus := [.ack w.tag], queue := s.queue ++ [written]
          offers :=
            [⟨.refusal, [⟨s.pageBase + 0x40, [⟨resultWord label opcode .busy 0, 0xFF⟩], .commandUnit⟩,
              ⟨s.pageBase + 0x48, [⟨0, 0xFF⟩], .commandUnit⟩]⟩]
          cu := { s.cu with refusal := some ⟨opcode, label, true⟩ } })

/-- ACKNOWLEDGE and CONSUMER_INDEX_WRITE present their write and have it admitted in one step, where nothing is ahead of
it and it fits (the model's choice, log 4). The page writes the Report Writer watches, taken at their admission: each
acknowledge bit clears its ring's pending flag, a change of a flag lists a status word unless one waits (R181, R180),
and each consumer index below the group count becomes the ring's, a full ring moving on at once when its next group is
released (R179). -/
def Obligations.AcknowledgesAndConsumerIndexesAreTaken : Prop :=
  ∀ (s : State) (w : WriteReq) (offset : Nat), s.pageWrite w offset → 0x80 ≤ offset → offset < 0xC0 →
    s.cu.refusal = none → s.cu.state.settled = true →
    let ack := coveredWord offset w.beats 17
    let cleared : Fin 2 → Bool := fun k =>
      s.rings[k].pending && (match ack with | some a => a.getLsbD k.val | none => false)
    ∃ t, exec (.acknowledge w) s = .next t ∧ exec (.consumerIndexWrite w) s = .next t ∧
      (∀ k : Fin 2,
        let x := { s.rings[k] with pending := s.rings[k].pending && !cleared k }
        t.rings[k] =
          match coveredWord offset w.beats (if k = 0 then 18 else 19) with
          | none => x
          | some v =>
            let c := (v.extractLsb' 0 4).toNat
            if x.groups ≤ c then x
            else if x.position = x.perGroup ∧ (x.group + 1) % x.groups ≠ c then
              { x with consumer := c, group := (x.group + 1) % x.groups, position := 0 }
            else { x with consumer := c }) ∧
      t.writeList =
        (if (cleared 0 || cleared 1) && !s.writeList.any ListItem.isStatus then s.writeList ++ [.status] else s.writeList) ∧
      t = { s with
        bus := [.ack w.tag], queue := s.queue ++ [⟨w.addr, w.beats, .agent w.tag⟩], rings := t.rings
        writeList := t.writeList }

/-- The Memory Port's turn: a ready read goes ahead of the head write, until eight have gone ahead of it; then the head
write is issued, unless a ready read overlaps it, which is issued first whatever the count says. A write issued restarts
the count, leaves the queue and makes ready the reads that waited for it alone (R37, R38, R39, log 13). -/
def Obligations.ReadsGoFirstEightTimes : Prop :=
  ∀ s : State,
    let issued : MemRead → State := fun r =>
      { s with
        bus := [.memRead r], readReady := s.readReady.erase r, readIssued := s.readIssued ++ [r]
        fairCount := if s.queue = [] then s.fairCount else s.fairCount + 1 }
    let drained : MemWrite → List MemWrite → State := fun w ws =>
      { s with
        bus := [.memWrite w], queue := ws, fairCount := 0
        readWait := (s.readWait.map (fun x => (x.1, x.2 - 1))).filter (fun x => x.2 != 0)
        readReady :=
          s.readReady ++ ((s.readWait.map (fun x => (x.1, x.2 - 1))).filter (fun x => x.2 == 0)).map Prod.fst }
    (∀ w ws, s.queue = w :: ws → s.readReady = [] → exec .writeDrain s = .next (drained w ws)) ∧
    (∀ r rs, s.readReady = r :: rs → s.queue = [] ∨ s.fairCount < 8 →
      exec .readIssue s = .next (issued r) ∧ exec .writeDrain s = .next { s with bus := [] }) ∧
    (∀ w ws, s.queue = w :: ws → s.readReady ≠ [] → 8 ≤ s.fairCount → (∀ x ∈ s.readReady, overlaps x w = false) →
      exec .readIssue s = .next (drained w ws) ∧ exec .writeDrain s = .next (drained w ws)) ∧
    (∀ w ws x, s.queue = w :: ws → 8 ≤ s.fairCount → s.readReady.find? (fun y => overlaps y w) = some x →
      exec .readIssue s = .next (issued x))

/-- Read data returns in the order of acceptance: the answer to the oldest read goes back to its agent, every beat whole and
the last one marked, and behind it the answers that have waited for it, each with its own error and its own departure
processing; an earlier answer waits. An error goes back on every beat and is reported (R3, R17). So the halves of a split
read return as one response, each half with its own error (R4). -/
def Obligations.ReadDataReturnsInOrder : Prop :=
  ∀ (s : State) (rec : ReadRec) (m : MemRead) (rest : List MemRead) (words : ReadWords),
    s.readIssued = m :: rest → m.ref = .agent rec.id → rec.departure = none →
    let view := (words.toList.take rec.count).map (fun w => if rec.swap then swapBytes w else w)
    (∀ waiting later : List ReadRec, s.reads = rec :: (waiting ++ later) →
      (∀ x ∈ waiting ++ later, x.id ≠ rec.id) → (∀ x ∈ waiting, x.answer ≠ none) →
      (∀ x, later.head? = some x → x.answer = none) →
      exec (.readReturn words false) s = .next
          { s with
            bus := beatsOut rec.tag false rec.last view ++ waiting.flatMap ReadRec.returned, reads := later
            readIssued := rest, paths := waiting.foldl ReadRec.counted s.paths } ∧
        exec (.readReturn words true) s = .next
          { submit ⟨.memoryError, 0, 1, stampWord s.reading 0, [m.addr, u32 rec.tag.val]⟩ s with
            bus := beatsOut rec.tag true rec.last view ++ waiting.flatMap ReadRec.returned, reads := later
            readIssued := rest, paths := waiting.foldl ReadRec.counted s.paths }) ∧
    (∀ first later, s.reads = first :: later → first.answer = none → first.id ≠ rec.id → rec ∈ later →
      exec (.readReturn words false) s = .next
        { s with
          bus := [], readIssued := rest
          reads := s.reads.map (fun r => if r.id = rec.id then { r with answer := some (words, false) } else r) })

/-- A memory error on a drained write is reported with the write's address and the tag of the agent it came from, or 255
for a write of the part's own; an error on a ring record is not reported (R17). -/
def Obligations.WriteErrorsAreReported : Prop :=
  ∀ (s : State) (addr : Addr),
    let report : BitVec 32 → State := fun tag => submit ⟨.memoryError, 0, 2, stampWord s.reading 0, [addr, tag]⟩ { s with bus := [] }
    (∀ tag : Fin 16, exec (.memoryWriteError addr (.agent tag)) s = .next (report (u32 tag.val))) ∧
      exec (.memoryWriteError addr .commandUnit) s = .next (report 255) ∧
      exec (.memoryWriteError addr .statusWord) s = .next (report 255) ∧
      exec (.memoryWriteError addr .ringRecord) s = .next { s with bus := [] }

/-- The Report Writer's turn: a record is written at its place with the ring's number, the ring moves on, and a completed
interrupt group or an urgent record sets its flag; a record that finds its ring full or its group's base absent is
dropped and counted, a dropped urgent one sets ring 0's flag, and the item behind it is taken at once; a status word carries
the flags as they stand (R176, R177, R178, R180). The eight words of a
record are offered lowest address first by the model's choice (log 33); that its place, number and drops are judged at
this turn is the model's reading (log 24). -/
def Obligations.RecordsArePlacedOrDropped : Prop :=
  ∀ (s : State) (rest : List ListItem), s.offers.any Offer.isReport = false →
    (s.writeList = [] → exec .recordPlacement s = .next { s with bus := [] }) ∧
    (s.writeList = .status :: rest →
      exec .recordPlacement s = .next
        { s with
          bus := [], writeList := rest
          offers := s.offers ++ [⟨.report, [⟨s.pageBase + 0x80,
            [⟨BitVec.ofNat 64 ((if s.rings[(1 : Fin 2)].pending then 2 else 0) +
              (if s.rings[(0 : Fin 2)].pending then 1 else 0)), 0xFF⟩], .statusWord⟩]⟩] }) ∧
    ∀ r, s.writeList = .record r :: rest →
      let k := r.kind.ring
      let x := s.rings[k]
      (∀ base, x.position ≠ x.perGroup → x.bases.toList[x.group]? = some (some base) →
        let full := x.position + 1 = x.perGroup
        let moves := full ∧ (x.group + 1) % x.groups ≠ x.consumer
        let signals := full ∧ x.completed + 1 = x.irqGroups
        ∃ t, exec .recordPlacement s = .next t ∧
          (∃ ws, t.offers = s.offers ++ [⟨.report, ws⟩] ∧ ws.length = 8 ∧ ∀ i : Nat, i < 8 → ∃ v,
            (recordWords r x.number x.drops)[i]? = some v ∧
            ws[i]? = some ⟨base + BitVec.ofNat 32 (64 * x.position + 8 * i), [⟨v, 0xFF⟩], .ringRecord⟩) ∧
          t.rings[k] =
            { x with
              number := x.number + 1, drops := 0
              position := if moves then 0 else x.position + 1
              group := if moves then (x.group + 1) % x.groups else x.group
              completed := if signals then 0 else if full then x.completed + 1 else x.completed
              pending := x.pending || decide signals || r.kind.urgent } ∧
          (∀ j : Fin 2, j ≠ k → t.rings[j] = s.rings[j]) ∧
          t.writeList =
            (if t.rings[k].pending ≠ x.pending ∧ rest.any ListItem.isStatus = false then rest ++ [.status] else rest) ∧
          t = { s with bus := [], offers := t.offers, rings := t.rings, writeList := t.writeList }) ∧
      (x.position = x.perGroup ∨ x.bases.toList[x.group]? = some none →
        exec .recordPlacement s = exec .recordPlacement ({ s with writeList := rest }.dropped r))

/-- A record's submission: suppressed by the ring's mask, dropped and counted while the write list holds eight records, else
listed as the youngest; a dropped urgent one sets ring 0's flag (R176, R178, R180). -/
def Obligations.SubmissionsAreMaskedDroppedOrListed : Prop :=
  ∀ (s : State) (r : Report),
    let x := s.rings[r.kind.ring]
    (x.mask.getLsbD r.kind.code = true → submit r s = s) ∧
    (x.mask.getLsbD r.kind.code = false → (s.writeList.filter ListItem.isRecord).length < 8 →
      submit r s = { s with writeList := s.writeList ++ [.record r] }) ∧
    (x.mask.getLsbD r.kind.code = false → 8 ≤ (s.writeList.filter ListItem.isRecord).length → submit r s = s.dropped r)

/-! ### The Time Base and the pins -/

/-- One period of the core clock: TIME and the run time advance by INC, a boundary is marked when the nanoseconds pass a
multiple of P, and REFP and CUT_N are sampled (R42, R44, R58, R153; the mark and the sample counts are the model's, log 3
and log 26). -/
def Obligations.TimeAdvancesByOneIncrement : Prop :=
  ∀ (s : State) (refp cutN : Bool), s.nothingDue →
    let b := s.tb
    let q : Int := b.rate * 17179869184
    let rounded : Int :=
      if 0 ≤ q then (2 * q + 1000000000) / 2000000000 else -((2 * (-q) + 1000000000) / 2000000000)
    let inc : Nat := (17179869184 + rounded).toNat
    let sum := b.time.ns * 4294967296 + b.time.frac + inc
    let spacing := (match b.p with | .ms1 => 1 | .ms10 => 10 | .ms100 => 100 | .ms1000 => 1000) * 1000000
    let sampled : Filter → Bool → Filter := fun f input => if input = f.level then ⟨f.level, 0⟩ else ⟨f.level, min 3 (f.run + 1)⟩
    exec (.timeIncrement refp cutN) s = .next
      { s with
        bus := []
        tb :=
          { b with
            time :=
              if sum < 1000000000 * 4294967296 then ⟨b.time.sec, sum / 4294967296, sum % 4294967296⟩
              else
                ⟨b.time.sec + 1, (sum - 1000000000 * 4294967296) / 4294967296,
                  (sum - 1000000000 * 4294967296) % 4294967296⟩
            runNs := min 18446744073709551615 (b.runNs + (b.runFrac + inc) / 4294967296)
            runFrac := (b.runFrac + inc) % 4294967296
            boundaryDue := decide (b.time.ns / spacing < sum / 4294967296 / spacing)
            refp := sampled b.refp refp }
        cut := sampled s.cut cutN }

/-- The edges of the filtered inputs, three samples of the other level on: a rising edge of REFP is a capture event, its
falling edge and the deassertion of CUT_N change the filtered level and nothing else (R44, R45, R153). An edge that is not
due changes nothing (the model's choice, log 2). -/
def Obligations.FilteredEdgesTakeEffect : Prop :=
  ∀ s : State,
    let b := s.tb
    (b.refp.level = false → 3 ≤ b.refp.run →
      exec .captureEvent s = .next
        { s with
          bus := []
          tb :=
            { b with
              refp := ⟨true, 0⟩, current := some ⟨b.time.sec, b.time.ns, b.runNs, .refp, false⟩, previous := b.current
              overcapture := b.overcapture || (match b.current with | some c => !c.used | none => false) } }) ∧
    (b.refp.level = true → 3 ≤ b.refp.run →
      exec .refpFallingEdge s = .next { s with bus := [], tb := { b with refp := ⟨false, 0⟩ } }) ∧
    (s.cut.level = true → 3 ≤ s.cut.run → exec .cutLineDeasserted s = .next { s with bus := [], cut := ⟨false, 0⟩ }) ∧
    (b.refp.run < 3 → exec .captureEvent s = .next { s with bus := [] } ∧
      exec .refpFallingEdge s = .next { s with bus := [] }) ∧
    (s.cut.run < 3 → exec .cutEdge s = .next { s with bus := [] } ∧ exec .cutLineDeasserted s = .next { s with bus := [] })

/-- The evaluation of a capture not yet used, by the reference state: FREE and ACQUIRING step or discipline (R47, R48),
LOCKED disciplines or loses its lock (R49), HOLDOVER returns to ACQUIRING (R51), and a pulse too far off is a stray (R50;
a pulse both above PULSE_WINDOW and within 4 × LOCK_WINDOW is taken as a stray, the model's reading, log 27). The records of
the event follow in the order R48 to R50 name them; that all of them carry the state after the whole event, and only the
first the overcapture flag, is the model's reading (log 15). -/
def Obligations.CapturesAreEvaluatedByTheReferenceState : Prop :=
  ∀ (s : State) (c : Capture), s.tb.current = some c → c.used = false →
    let b := s.tb
    let d := b.disc
    let used : TimeBase := { b with current := some { c with used := true } }
    let e : Int := if c.ns < 500000000 then c.ns else (c.ns : Int) - 1000000000
    let f : Int :=
      match b.prevError, b.lastAccepted with
      | some e0, some run =>
        if run + 1000000000 ≤ c.run + d.pulseWindow ∧ c.run ≤ run + 1000000000 + d.pulseWindow then e - e0 else 0
      | _, _ => 0
    let rate : Int := b.rate - e / 2 ^ d.gp - f / 2 ^ d.gf
    let clamped : Int := max (-d.rateLimit) (min rate d.rateLimit)
    let clamps : List TimeCause := if rate = clamped then [] else [.rateClamp]
    let after : TimeBase → List TimeCause → Prop := fun t causes =>
      exec .captureEvaluation s = .next (timeEvents causes e { s with bus := [], tb := t })
    let accepted : TimeBase := { used with lastAccepted := some c.run, watchMark := c.run, strayRun := 0 }
    let acquiring : Nat → List TimeCause → Prop := fun lockRun earlier =>
      (d.stepThreshold < e.natAbs → after
        { accepted with
          ref := .acquiring, lockRun := 0, epoch := b.epoch + 1, prevError := none, repetition := b.r, stats := b.s
          time :=
            ⟨b.time.sec + BitVec.ofInt 48 (((b.time.ns : Int) - e) / 1000000000),
              (((b.time.ns : Int) - e) % 1000000000).toNat, b.time.frac⟩ } (earlier ++ [.step])) ∧
      (e.natAbs ≤ d.stepThreshold →
        let run := if e.natAbs ≤ d.lockWindow then lockRun + 1 else 0
        after
          { accepted with
            ref := if d.lockCount ≤ run then .locked else .acquiring
            rate := clamped, prevError := some e, lockRun := run }
          (earlier ++ clamps ++ (if d.lockCount ≤ run then [.locked] else [])))
    (b.ref = .free → acquiring 0 []) ∧ (b.ref = .acquiring → acquiring b.lockRun []) ∧
      (b.ref = .holdover → e.natAbs ≤ d.pulseWindow → acquiring 0 []) ∧
      (b.ref = .locked → e.natAbs ≤ d.pulseWindow → 4 * d.lockWindow < e.natAbs → acquiring 0 [.unlocked]) ∧
      (b.ref = .locked → e.natAbs ≤ d.pulseWindow → e.natAbs ≤ 4 * d.lockWindow →
        after { accepted with rate := clamped, prevError := some e } clamps) ∧
      (b.ref = .locked ∨ b.ref = .holdover → d.pulseWindow < e.natAbs →
        (b.strayRun + 1 < 3 → after { used with strayRun := b.strayRun + 1 } [.stray]) ∧
        (3 ≤ b.strayRun + 1 → after
          { used with ref := .acquiring, strayRun := 0, lockRun := 0, watchMark := b.runNs }
          (if b.ref = .locked then [.stray, .unlocked] else [.stray])))

/-- A watch expiry: ACQUIRING and HOLDOVER become FREE, LOCKED becomes HOLDOVER with a new mark, each with its TIME_EVENT,
which carries the overcapture flag and clears it (R52, R53); FREE has no limit, and a watch that has not expired changes
nothing (the model's choice, log 2). -/
def Obligations.TheWatchExpires : Prop :=
  ∀ s : State,
    let b := s.tb
    let report : RefState → Nat → Nat → Report := fun ref code cause =>
      ⟨.timeEvent, 0, BitVec.ofNat 8 cause,
        stampWord ⟨b.time, b.epoch, if b.secondsSet then (if ref = .free then .free else .holdover) else .unset⟩ 0,
        [u32 code, 0, BitVec.ofInt 32 b.rate, u32 b.epoch.toNat, (if b.overcapture then 1 else 0)]⟩
    (b.ref = .acquiring ∧ b.watchMark + 1100000000 ≤ b.runNs ∨
        b.ref = .holdover ∧ b.watchMark + b.disc.holdoverLimit * 1000000000 ≤ b.runNs →
      exec .watchExpiry s = .next
        (submit (report .free 0 5) { s with bus := [], tb := { b with ref := .free, overcapture := false } })) ∧
    (b.ref = .locked → b.watchMark + 1100000000 ≤ b.runNs →
      exec .watchExpiry s = .next
        (submit (report .holdover 3 4)
          { s with bus := [], tb := { b with ref := .holdover, watchMark := b.runNs, overcapture := false } })) ∧
    (b.ref = .free ∨ (b.ref = .acquiring ∨ b.ref = .locked) ∧ b.runNs < b.watchMark + 1100000000 ∨
        b.ref = .holdover ∧ b.runNs < b.watchMark + b.disc.holdoverLimit * 1000000000 →
      exec .watchExpiry s = .next { s with bus := [] })

/-- A boundary: with the repetition counter above 0 it only counts down; at 0 it makes an update event and reloads the
counter, and the update event at which the stats count ends is a stats event (R59, R60). That the rows UPDATE_EVENT and
STATS_EVENT take the due boundary that makes their event, so that they do what BOUNDARY does there, is the model's choice
(log 3); the order of the work is a free value (log 7), and a row whose event is not due changes nothing (the model's choice,
log 2). The path statistics of a stats event are submitted for paths 0 to 7 in turn, and every period count restarts (R99;
log 35 for a mean dwell that does not fit its field); the route statistics for routes 0 to 3 in turn, and the counts of the
three blocks restart (R32, R131, R150, R182). -/
def Obligations.BoundariesMakeUpdateAndStatsEvents : Prop :=
  (∀ s : State,
    pathStats s =
        { s.reported (([0, 1, 2, 3, 4, 5, 6, 7] : List (Fin 8)).flatMap s.pathReports) with
          paths := s.paths.map (fun x => { x with period := x.period.after true }) } ∧
      routeStats s =
        { s.reported (([0, 1, 2, 3] : List (Fin 4)).flatMap s.routeReports) with
          steer := s.steer.map (fun x => { x with commits := 0, darkDiscards := 0, abandoned := 0, mirrored := 0 })
          mergers := s.mergers.map (fun x => { x with stale := 0, resyncs := 0 })
          routes := s.routes.map (fun x => { x with modeChanges := 0 }) }) ∧
  ∀ s : State,
    let b := s.tb
    let idle : Host.Outcome State Fault Refusal := .next { s with bus := [] }
    let order := Config.updateOrder s.choice
    (b.boundaryDue = false → exec .boundary s = idle ∧ exec .updateEvent s = idle ∧ exec .statsEvent s = idle) ∧
    (b.boundaryDue = true → b.repetition ≠ 0 →
      exec .boundary s = .next { s with bus := [], tb := { b with boundaryDue := false, repetition := b.repetition - 1 } } ∧
        exec .updateEvent s = idle ∧ exec .statsEvent s = idle) ∧
    (b.boundaryDue = true → b.repetition = 0 → b.stats ≠ 1 →
      exec .boundary s = .next (updateEvent false order
          { s with
            bus := [], choice := s.choice + 1
            tb := { b with boundaryDue := false, repetition := b.r, stats := b.stats - 1 } }) ∧
        exec .updateEvent s = exec .boundary s ∧ exec .statsEvent s = idle) ∧
    (b.boundaryDue = true → b.repetition = 0 → b.stats = 1 →
      exec .boundary s = .next (updateEvent true order
          { s with
            bus := [], choice := s.choice + 1
            tb := { b with boundaryDue := false, repetition := b.r, stats := b.s } }) ∧
        exec .updateEvent s = exec .boundary s ∧ exec .statsEvent s = exec .boundary s)

/-- The work of an update event, in whatever order it is taken (log 7): pending windows are installed and the
dark-reported flags cleared (R11, R32), a pending candidate list is installed with its interval, its cursor and its
countdown (R122), and every route's probe countdown is one less (R131, R135). Each path has its loss check, its
probation countdown, the rollover of its losses, the ageing of both views and of its far-end condition (R93, R109 to
R111); a CUT path whose auto release is 1, while the line is deasserted, is released besides, ahead of that work or
behind it (R159). At a stats event every period count and every route's mode-change count restarts, the latter ahead of
the changes the Route Selector makes itself; otherwise none does (R32, R99, R131, R150). Each piece of the work is done
once: the path statistics first or behind the Route Selector's work alone; that work for routes 0 to 3 in turn, each
with its installation, its re-rank, its return from FALLBACK and its countdown (R131); the releases; each path's own. -/
def Obligations.UpdateEventsInstallAgeAndRestart : Prop :=
  (∀ (stats : Bool) (order : List UpdateTask) (s : State),
    let u := updateEvent stats order s
    let stale := s.estimator.reportStale
    (∀ i : Fin 8, u.windows[i] =
      if s.windows[i].pending then ⟨s.windows[i].preload, s.windows[i].preload, false⟩ else s.windows[i]) ∧
    (∀ r : Fin 4,
      let x := s.routes[r]
      u.routes[r].preload = x.preload ∧ u.routes[r].preloadInterval = x.preloadInterval ∧ u.routes[r].pending = false ∧
        (x.pending = true →
          u.routes[r].live = x.preload.map (fun p => (⟨p, s.paths[p].set.standby⟩ : Candidate)) ∧
            u.routes[r].interval = x.preloadInterval ∧ u.routes[r].cursor = 0 ∧
            u.routes[r].countdown = x.preloadInterval - 1) ∧
        (x.pending = false →
          u.routes[r].live = x.live ∧ u.routes[r].interval = x.interval ∧ u.routes[r].cursor = x.cursor ∧
            u.routes[r].countdown = x.countdown - 1)) ∧
    (∀ p : Fin 8,
      let x := s.paths[p]
      let counts := x.period.after stats
      let release := x.state = .cut ∧ x.set.autoRelease = true ∧ s.cut.level = false
      (¬ release → u.paths[p] = { x.monitored stale with period := counts }) ∧
      (release → u.paths[p] = { (x.released s.tb.runNs).monitored stale with period := counts } ∨
        u.paths[p] = { (x.monitored stale).released s.tb.runNs with period := counts }) ∧
      u.paths[p].lastLosses = x.updLosses ∧ u.paths[p].updLosses = 0 ∧
      u.paths[p].tx = x.tx.map (fun v => ⟨v.delay, v.jitter, min 255 (v.age + 1)⟩)) ∧
    (∀ r : Fin 4, u.steer[r] =
        (if stats then
          { s.steer[r] with commits := 0, darkDiscards := 0, abandoned := 0, mirrored := 0, darkReported := false }
        else { s.steer[r] with darkReported := false }) ∧
      u.mergers[r] = (if stats then { s.mergers[r] with stale := 0, resyncs := 0 } else s.mergers[r]) ∧
      (s.routes[r].live = [] → s.routes[r].pending = false → s.routes[r].chosen = ⟨.dark, none, none⟩ →
        u.routes[r].modeChanges = if stats then 0 else s.routes[r].modeChanges)) ∧
    u = { s with
      windows := u.windows, steer := u.steer, paths := u.paths, routes := u.routes, mergers := u.mergers
      rings := u.rings, writeList := u.writeList }) ∧
  (∀ (stats : Bool) (wish : List UpdateTask) (s : State), ∃ order : List UpdateTask,
    order.Perm (.pathStats :: .routes :: .release :: ([0, 1, 2, 3, 4, 5, 6, 7] : List (Fin 8)).map UpdateTask.monitor) ∧
    (order.head? = some .pathStats ∨ order.take 2 = [.routes, .pathStats]) ∧
    updateEvent stats wish s = order.foldl (fun u task => runTask stats task u)
      { s with
        windows := s.windows.map (fun x => if x.pending then ⟨x.preload, x.preload, false⟩ else x)
        steer := s.steer.map (fun x => { x with darkReported := false }) }) ∧
  ∀ (stats : Bool) (s : State),
    let counted := if stats then routeStats s else s
    runTask stats .pathStats s = (if stats then pathStats s else s) ∧
      runTask stats .routes s = (((counted.routeWorked 0).routeWorked 1).routeWorked 2).routeWorked 3 ∧
      runTask stats .release s = ([0, 1, 2, 3, 4, 5, 6, 7] : List (Fin 8)).foldl State.pathReleased s ∧
      ∀ p : Fin 8, runTask stats (.monitor p) s = s.pathWorked p

/-! ### Commands of the Command Unit -/

/-- A command frozen at the present lock level is answered LOCKED and changes nothing but the result record (R164). The
result record's lower word is offered first by the model's choice (log 33). -/
def Obligations.FrozenCommandsChangeNothing : Prop :=
  ∀ (s : State) (c : Command) (args : ArgWords), s.fetched c →
    let locked : Instr → Word → Prop := fun i value => exec i s = .next (s.working.answered c ⟨.locked, 0, value⟩)
    (∀ x ∈ ([(.setAgent args, 0x01, 1), (.setTiming args, 0x02, 1), (.setTime args, 0x03, 1), (.setDiscipline args, 0x04, 1),
        (.setLayout args, 0x05, 2), (.setWindow args, 0x06, 2), (.setPath args, 0x07, 2), (.setRing args, 0x08, 2),
        (.setRingGroup args, 0x09, 2), (.setHealth args, 0x0A, 3), (.setEstimator args, 0x0B, 3),
        (.setRoute args, 0x0C, 3), (.restart args, 0x12, 1)] : List (Instr × BitVec 8 × Nat)),
      c.opcode = x.2.1 → x.2.2 ≤ s.cu.lockLevel → locked x.1 0) ∧
    (c.opcode = 0x10 → 1 ≤ s.cu.lockLevel → (argNat args 1 = 0 → locked (.generateUpdate args) 0) ∧
      (argNat args 1 = 1 → locked (.generateRefPulse args) 0) ∧ (argNat args 1 = 2 → locked (.generateCut args) 0)) ∧
    (c.opcode = 0x0D → 3 ≤ s.cu.lockLevel → argNat args 1 ≤ 7 → argNat args 2 = 1 →
      locked (.pathAdminDisable args) (if s.cut.level then 1 else 0))

/-- Refused commands: an opcode that names no command (R164), an argument read that fails (R162; its value word is 0, for
a RAISE_LOCK too, by the model's reading, log 36), and a structural error at a level that does not freeze the command:
the first argument, in index order, whose check fails, with its index, whatever the later arguments are (R164, R6,
R166 to R172). That taking MANAGEMENT from the last such entry is refused at index 2, ahead of the path's index 3, is
the model's reading (log 21); that a PATH_ADMIN whose action, or a GENERATE whose event, is out of range is answered
alike by each of its rows is the model's choice (log 32). The result record's lower word is offered first by the
model's choice (log 33). -/
def Obligations.BadCommandsAndArgumentsAreRefused : Prop :=
  ∀ (s : State) (c : Command) (args : ArgWords), s.fetched c →
    let a := argNat args
    let part : Nat → Nat → Nat → Nat := fun k low len => ((argWord args k).extractLsb' low len).toNat
    let base : Nat := ((argWord args 3).setWidth 32 : BitVec 32).toNat
    let refused : Instr → Word → List (Nat × Bool) → Prop := fun i value checks =>
      ∀ index, (checks.find? Prod.snd).map Prod.fst = some index →
        exec i s = .next (s.working.answered c ⟨.badArgument, index, value⟩)
    let lastManager := (List.finRange 16).all (fun tag => (s.agents[tag].role == .management) == (tag.val == a 1))
    let size := 65536 * 2 ^ part 2 16 8
    let pathNumber : Nat → Nat := fun i => part 3 (8 * i) 8
    let badEntry : Nat → Bool := fun i =>
      decide (i < a 2) && (decide (7 < pathNumber i) || (List.range i).any (fun j => pathNumber j == pathNumber i))
    (c.opcode = 0 ∨ 0x12 < c.opcode.toNat →
      exec (.badCommand args) s = .next (s.working.answered c ⟨.badCommand, 0, 0⟩)) ∧
    exec .argumentReadError s = .next
      ((submit ⟨.memoryError, 0, 1, stampWord s.reading 0, [s.pageBase + 8, 255]⟩ s.working).answered c ⟨.badArgument, 0, 0⟩) ∧
    (s.cu.lockLevel < 1 →
      (c.opcode = 0x01 →
        refused (.setAgent args) 0 [(1, 15 < a 1), (2, 3 < a 2 || (a 2 != 3 && lastManager)), (3, 7 < a 3)]) ∧
      (c.opcode = 0x03 → refused (.setTime args) 0 [(2, 1000000000 ≤ a 2)]) ∧
      (c.opcode = 0x10 → refused (.generateUpdate args) 0 [(1, 2 < a 1)] ∧
        refused (.generateRefPulse args) 0 [(1, 2 < a 1)] ∧ refused (.generateCut args) 0 [(1, 2 < a 1)])) ∧
    (s.cu.lockLevel < 2 →
      (c.opcode = 0x05 → refused (.setLayout args) 0 [(1, a 1 < 32 * a 2)]) ∧
      (c.opcode = 0x06 → refused (.setWindow args) 0
        [(1, 7 < a 1), (3, 4 < part 2 8 8),
         (4, 8 < part 2 16 8 || (part 2 8 8 == 0 && size != s.layout.section) ||
           (part 2 8 8 == 1 && size != 4 * s.layout.section)),
         (5, (part 2 8 8 == 0 && decide (3 < part 2 24 8)) ||
           ((part 2 8 8 == 1 || part 2 8 8 == 2) && decide (7 < part 2 24 8))),
         (7, base % size != 0)]) ∧
      (c.opcode = 0x07 →
        refused (.setPath args) 0 [(1, 7 < a 1), (2, 2 < part 2 0 8), (7, base % (4 * s.layout.section) != 0)]) ∧
      (c.opcode = 0x08 → refused (.setRing args) 0 [(1, 1 < a 1)]) ∧
      (c.opcode = 0x09 → refused (.setRingGroup args) 0 [(1, 1 < a 1), (2, 15 < a 2), (3, base % 64 != 0)])) ∧
    (s.cu.lockLevel < 3 →
      (c.opcode = 0x0A → refused (.setHealth args) 0 [(1, 7 < a 1)]) ∧
      (c.opcode = 0x0C → refused (.setRoute args) 0
        [(1, 3 < a 1), (2, 4 < a 2), (3, badEntry 0), (4, badEntry 1), (5, badEntry 2), (6, badEntry 3)])) ∧
    (c.opcode = 0x0D → ∀ row ∈ ([(.pathAdminEnable args, 0), (.pathAdminDisable args, 1), (.pathAdminForceDown args, 2),
        (.pathAdminReleaseCut args, 3)] : List (Instr × Nat)),
      a 2 = row.2 ∨ 3 < a 2 → refused row.1 (if s.cut.level then 1 else 0) [(1, 7 < a 1), (2, 3 < a 2)]) ∧
    (c.opcode = 0x11 → refused (.snapshot args) 0
      [(1, 3 < a 1), (2, (match a 1 with | 0 => 0 | 1 => 7 | 2 => 3 | _ => 1) < a 2)])

/-- The agent table and the time base commands, executed (R6, R62, R56, R57, R43, with the arguments of R166). The detail
of a DONE_CLAMPED answer is the index of the first argument a clamp changed (R164). A SET_DISCIPLINE that clamps the rate
submits RATE_CLAMP (R43), and one that ends a HOLDOVER submits FREE behind it (R52); that one which lowers HOLDOVER_LIMIT
below the time already spent ends the HOLDOVER in the same step is the model's reading (log 29). The result record's lower
word is offered first by the model's choice (log 33). -/
def Obligations.AgentAndTimeCommandsTakeEffect : Prop :=
  ∀ (s : State) (c : Command) (args : ArgWords), s.fetched c → s.cu.lockLevel = 0 →
    let b := s.tb
    let a := argNat args
    (∀ (tag : Fin 16) (role : Role) (path : Fin 8), c.opcode = 0x01 → a 1 = tag.val →
      a 2 = (match role with | .none => 0 | .frameEngine => 1 | .modem => 2 | .management => 3) → a 3 = path.val →
      role = .management ∨ s.agents[tag].role ≠ .management ∨
        (∃ other : Fin 16, other ≠ tag ∧ s.agents[other].role = .management) →
      exec (.setAgent args) s = .next
        (({ s.working with agents := s.agents.set tag ⟨role, path⟩ } : State).answered c ⟨.done, 0, 0⟩)) ∧
    (c.opcode = 0x02 →
      let p : Spacing :=
        if 1000 ≤ a 1 then .ms1000 else if 100 ≤ a 1 then .ms100 else if 10 ≤ a 1 then .ms10 else .ms1
      let r := min (a 2) 255
      let n := max 1 (min (a 3) 255)
      exec (.setTiming args) s = .next
        ((s.working.setTb { b with p := p, r := r, s := n, repetition := r, stats := n }).answered c
          (if a 1 ≠ 1 ∧ a 1 ≠ 10 ∧ a 1 ≠ 100 ∧ a 1 ≠ 1000 then ⟨.doneClamped, 1, 0⟩
          else if 255 < a 2 then ⟨.doneClamped, 2, 0⟩
          else if a 3 = 0 ∨ 255 < a 3 then ⟨.doneClamped, 3, 0⟩
          else ⟨.done, 0, 0⟩))) ∧
    (c.opcode = 0x03 → a 2 < 1000000000 →
      let ref : RefState :=
        match b.lastAccepted with
        | some run => if b.runNs < run + 1100000000 then .acquiring else .free
        | none => .free
      let t : TimeBase :=
        { b with
          time := ⟨BitVec.ofNat 48 (min (a 1) 281474976710655), a 2, 0⟩, secondsSet := true, epoch := b.epoch + 1
          prevError := none, lockRun := 0, strayRun := 0, repetition := b.r, stats := b.s, ref := ref
          overcapture := false, current := b.current.map (fun x => { x with used := true }) }
      exec (.setTime args) s = .next
        ((submit
          ⟨.timeEvent, 0, 1, stampWord ⟨t.time, t.epoch, if ref = .free then .free else .holdover⟩ 0,
            [(if ref = .free then 0 else 1), 0, BitVec.ofInt 32 b.rate, u32 (b.epoch + 1).toNat,
             (if b.overcapture then 1 else 0)]⟩
          (s.working.setTb t)).answered c
          (if 281474976710655 < a 1 then ⟨.doneClamped, 1, 0⟩ else ⟨.done, 0, 0⟩))) ∧
    (c.opcode = 0x04 →
      let d : Discipline :=
        { stepThreshold := max 100 (min (a 1) 1000000), lockWindow := max 10 (min (a 2) 10000)
          lockCount := max 1 (min (a 3) 15), pulseWindow := max 1000 (min (a 4) 100000)
          gp := min (argField args 5 0 8) 7, gf := min (argField args 5 8 8) 7
          rateLimit := max 1 (min (a 6) 50000), holdoverLimit := max 1 (min (a 7) 65535) }
      let rate : Int := max (-d.rateLimit) (min b.rate d.rateLimit)
      let clamps : List (Nat × Bool) :=
        [(1, d.stepThreshold != a 1), (2, d.lockWindow != a 2), (3, d.lockCount != a 3), (4, d.pulseWindow != a 4),
         (5, d.gp != argField args 5 0 8), (6, d.gf != argField args 5 8 8), (7, d.rateLimit != a 6),
         (8, d.holdoverLimit != a 7)]
      ∃ t : State, exec (.setDiscipline args) s = .next (t.answered c
          (match clamps.find? Prod.snd with | some x => ⟨.doneClamped, x.1, 0⟩ | none => ⟨.done, 0, 0⟩)) ∧
        t.tb.disc = d ∧ t.tb.rate = rate ∧
        t.tb.time = b.time ∧ t.tb.epoch = b.epoch ∧ t.tb.prevError = b.prevError ∧
        t.tb.ref =
          (if b.ref = .holdover ∧ b.watchMark + d.holdoverLimit * 1000000000 ≤ b.runNs then .free else b.ref) ∧
        (rate = b.rate → t.tb.ref = b.ref → t = s.working.setTb { b with disc := d }) ∧
        (let report : RefState → BitVec 8 → Bool → Report := fun ref cause overcapture =>
            ⟨.timeEvent, 0, cause,
              stampWord ⟨b.time, b.epoch,
                if b.secondsSet = false then .unset
                else match ref with | .free => .free | .acquiring | .holdover => .holdover | .locked => .locked⟩ 0,
              [(match ref with | .free => 0 | .acquiring => 1 | .locked => 2 | .holdover => 3), 0, BitVec.ofInt 32 rate,
               u32 b.epoch.toNat, (if overcapture then 1 else 0)]⟩
          let flag := b.overcapture && rate == b.rate
          let clamped :=
            if rate = b.rate then s.working.setTb { b with disc := d }
            else submit (report b.ref 7 b.overcapture)
              (s.working.setTb { b with disc := d, rate := rate, overcapture := false })
          t =
            if b.ref = .holdover ∧ b.watchMark + d.holdoverLimit * 1000000000 ≤ b.runNs then
              submit (report .free 5 flag)
                { clamped with tb := { b with disc := d, rate := rate, ref := .free, overcapture := false } }
            else clamped))

/-- The layout and the windows: a SET_LAYOUT that changes the layout abandons every open slot, each with its report, oldest
first, route 0 to route 3 (R20, R24), and empties the pending-arrival lists (R79); a SET_WINDOW fills the named preload; an
APPLY installs what is pending, routes 0 to 3 in turn (R11, R122, R167, R171). The result record's lower word is offered
first by the model's choice (log 33). -/
def Obligations.LayoutAndWindowCommandsTakeEffect : Prop :=
  ∀ (s : State) (c : Command) (args : ArgWords), s.fetched c →
    let a := argNat args
    (c.opcode = 0x05 → s.cu.lockLevel < 2 → 32 * a 2 ≤ a 1 →
      ∃ (l : Layout) (t : State), exec (.setLayout args) s = .next (t.answered c
          (if l.section ≠ a 1 then ⟨.doneClamped, 1, 0⟩ else if l.slot ≠ a 2 then ⟨.doneClamped, 2, 0⟩ else ⟨.done, 0, 0⟩)) ∧
        (l.section ≤ a 1 ∨ l.section = 65536) ∧ (a 1 < 2 * l.section ∨ l.section = 4194304) ∧
        (l.slot ≤ a 2 ∨ l.slot = 256) ∧ (a 2 < 2 * l.slot ∨ l.slot = 2048) ∧
        (l = s.layout → t = s.working) ∧
        (l ≠ s.layout → t.layout = l ∧ (∀ p : Fin 8, t.arrivals[p] = []) ∧
          (∀ r : Fin 4, t.steer[r] =
            { s.steer[r] with
              openSlots := []
              abandoned :=
                if s.steer[r].openSlots = [] then s.steer[r].abandoned
                else min 4294967295 (s.steer[r].abandoned + s.steer[r].openSlots.length) }) ∧
          t = { s.working.reported (([0, 1, 2, 3] : List (Fin 4)).flatMap s.abandonReports) with
            layout := l, steer := t.steer, arrivals := t.arrivals })) ∧
    (∀ (i : Fin 8) (w : Window), c.opcode = 0x06 → s.cu.lockLevel < 2 → a 1 = i.val →
      w.enabled = (argWord args 2).getLsbD 0 →
      ((argWord args 2).extractLsb' 8 8).toNat =
        (match w.kind with | .routeTx => 0 | .pathTx => 1 | .pathRx => 2 | .status => 3 | .plain => 4) →
      ((argWord args 2).extractLsb' 16 8).toNat = w.sizeExp.val → w.index = (argWord args 2).extractLsb' 24 8 →
      w.swap = (argWord args 2).getLsbD 32 → w.base = (argWord args 3).setWidth 32 →
      w.transBase = (argWord args 4).setWidth 32 →
      (w.kind = .routeTx → w.size = s.layout.section ∧ w.index.toNat ≤ 3) →
      (w.kind = .pathTx → w.size = 4 * s.layout.section ∧ w.index.toNat ≤ 7) →
      (w.kind = .pathRx → w.index.toNat ≤ 7) → w.base.toNat % w.size = 0 →
      exec (.setWindow args) s = .next
        ((s.working.setWindowEntry i { s.windows[i] with preload := w, pending := true }).answered c ⟨.done, 0, 0⟩)) ∧
    (c.opcode = 0x0E → ∃ t : State, exec (.apply args) s = .next (t.answered c ⟨.done, 0, 0⟩) ∧
      (∀ i : Fin 8, t.windows[i] =
        if s.windows[i].pending then ⟨s.windows[i].preload, s.windows[i].preload, false⟩ else s.windows[i]) ∧
      (∀ r : Fin 4, s.routes[r].pending = false → t.routes[r] = s.routes[r]) ∧
      (∀ r : Fin 4, s.routes[r].pending = true →
        let x := s.routes[r]
        let live := x.preload.map (fun p => (⟨p, s.paths[p].set.standby⟩ : Candidate))
        t.routes[r].live = live ∧ t.routes[r].interval = x.preloadInterval ∧ t.routes[r].cursor = 0 ∧
          t.routes[r].countdown = x.preloadInterval ∧ t.routes[r].pending = false ∧
          t.routes[r].preload = x.preload ∧ t.routes[r].preloadInterval = x.preloadInterval ∧
          t.routes[r].chosen = s.fullSelection { x with live := live } ∧
          t.routes[r].modeChanges =
            (if t.routes[r].chosen.mode = x.chosen.mode then x.modeChanges else min 4294967295 (x.modeChanges + 1))) ∧
      t = ((({ s.working with windows := t.windows }.routeInstalled 0).routeInstalled 1).routeInstalled 2).routeInstalled 3)

/-- SET_PATH, SET_HEALTH and SET_ESTIMATOR, executed with their clamps (R101, R120, R102, R97, R168, R169), the detail of
a DONE_CLAMPED answer being the index of the first argument a clamp changed (R164). That a receive base is stored with
its low six bits zero is the model's reading (log 28); so is that a SET_HEALTH which lowers the status timeout below
the time already spent makes the expiry in the same step, with its move to DOWN (log 29, R108). The result record's
lower word is offered first by the model's choice (log 33). -/
def Obligations.PathCommandsTakeEffect : Prop :=
  ∀ (s : State) (c : Command) (args : ArgWords), s.fetched c →
    let a := argNat args
    (∀ (p : Fin 8) (cls : PathClass), c.opcode = 0x07 → s.cu.lockLevel < 2 → a 1 = p.val →
      ((argWord args 2).extractLsb' 0 8).toNat = (match cls with | .mw => 0 | .mmw => 1 | .fibre => 2) →
      ((argWord args 3).setWidth 32 : BitVec 32).toNat % (4 * s.layout.section) = 0 →
      let asym : Int := (argWord args 7).toInt
      let x : PathSettings :=
        { cls := cls, standby := (argWord args 2).getLsbD 8, txBase := (argWord args 3).setWidth 32
          rxBase := (argWord args 4).setWidth 32 &&& ~~~63, txLead := min (a 5) 65535
          maxDwell := max 1000 (min (a 6) 100000000), cutEnable := (argWord args 2).getLsbD 9
          behaviour := if (argWord args 2).getLsbD 10 then .pass else .blank
          autoRelease := (argWord args 2).getLsbD 11, asymmetry := max (-1000000) (min asym 1000000) }
      ∃ t : State, exec (.setPath args) s = .next (t.answered c
          (if x.txLead ≠ a 5 then ⟨.doneClamped, 9, 0⟩ else if x.maxDwell ≠ a 6 then ⟨.doneClamped, 10, 0⟩
          else if x.asymmetry ≠ asym then ⟨.doneClamped, 11, 0⟩ else ⟨.done, 0, 0⟩)) ∧
        t.paths = s.paths.set p { s.paths[p] with set := x } ∧
        (x.standby = s.paths[p].set.standby → t.routes = s.routes) ∧
        (x.standby ≠ s.paths[p].set.standby → ∀ r : Fin 4,
          let live := s.routes[r].live.map (fun k => if k.path = p then (⟨k.path, x.standby⟩ : Candidate) else k)
          t.routes[r].live = live ∧
            (live.any (fun k => k.path == p) = true →
              t.routes[r].chosen = t.fullSelection { s.routes[r] with live := live })) ∧
        t = { s.working with paths := t.paths, routes := t.routes, rings := t.rings, writeList := t.writeList }) ∧
    (∀ p : Fin 8, c.opcode = 0x0A → s.cu.lockLevel < 3 → a 1 = p.val →
      let signed : Nat → Int := fun lo => ((argWord args 2).extractLsb' lo 16).toInt
      let level : Int → Int := fun n => max (-1000) (min n 0)
      let down := min (level (signed 0)) (-20)
      let fade0 := min (level (signed 16)) (-10)
      let fade := if fade0 ≤ down then down + 10 else fade0
      let recover := if level (signed 32) ≤ fade then fade + 10 else level (signed 32)
      let h : HealthSettings :=
        { downLevel := down, fadeLevel := fade, recoverLevel := recover
          nFade := max 1 (min (argField args 3 0 8) 15), nDown := max 1 (min (argField args 3 8 8) 15)
          nRecover := max 1 (min (argField args 3 16 8) 255), minStep := min (argField args 3 24 8) 15
          timeout := max 1 (min (argField args 4 0 16) 1000), lossFade := max 1 (min (argField args 5 0 16) 1000)
          lossDown := max 1 (min (argField args 5 16 16) 1000), probation := max 1 (min (argField args 6 0 8) 255)
          minSamples := max 1 (min (argField args 6 8 8) 255) }
      let clamps : List (Nat × Bool) :=
        [(2, h.downLevel != signed 0), (3, h.fadeLevel != signed 16), (4, h.recoverLevel != signed 32),
         (5, h.nFade != argField args 3 0 8), (6, h.nDown != argField args 3 8 8), (7, h.nRecover != argField args 3 16 8),
         (8, h.minStep != argField args 3 24 8), (9, h.timeout != argField args 4 0 16),
         (10, h.lossFade != argField args 5 0 16), (11, h.lossDown != argField args 5 16 16),
         (12, h.probation != argField args 6 0 8), (13, h.minSamples != argField args 6 8 8)]
      ∃ t : State, exec (.setHealth args) s = .next (t.answered c
          (match clamps.find? Prod.snd with | some x => ⟨.doneClamped, x.1, 0⟩ | none => ⟨.done, 0, 0⟩)) ∧
        (∀ q : Fin 8, q ≠ p → t.paths[q] = s.paths[q]) ∧
        ((∀ start, s.paths[p].timer = some start → s.tb.runNs < start + h.timeout * 1000000) →
          t = { s.working with paths := s.paths.set p { s.paths[p] with hs := h } }) ∧
        (∀ start, s.paths[p].timer = some start → start + h.timeout * 1000000 ≤ s.tb.runNs →
          t.paths[p] =
            (if s.paths[p].state = .up ∨ s.paths[p].state = .fading ∨ s.paths[p].state = .probation then
              { s.paths[p] with
                hs := h, timer := none, state := .down, lastCause := 8, belowFade := 0, belowDown := 0
                aboveRecover := 0 }
            else { s.paths[p] with hs := h, timer := none })) ∧
        t = { s.working with paths := t.paths, routes := t.routes, rings := t.rings, writeList := t.writeList }) ∧
    (c.opcode = 0x0B → s.cu.lockLevel < 3 →
      let e : Estimator :=
        ⟨max 1 (min (a 1) 8), max 1 (min (a 2) 8), min (a 3) 15, max 1000 (min (a 4) 500000000), max 1 (min (a 5) 255),
          min (a 6) 1000000, a 7 != 0⟩
      let clamps : List (Nat × Bool) :=
        [(1, e.k != a 1), (2, e.kj != a 2), (3, e.w != a 3), (4, e.maxPlausible != a 4), (5, e.reportStale != a 5),
         (6, e.switchMargin != a 6), (7, 1 < a 7)]
      ∃ t : State, exec (.setEstimator args) s = .next (t.answered c
          (match clamps.find? Prod.snd with | some x => ⟨.doneClamped, x.1, 0⟩ | none => ⟨.done, 0, 0⟩)) ∧
        t.estimator = e ∧
        (∀ p : Fin 8, t.paths[p] =
          if e.maxPlausible < s.estimator.maxPlausible then
            { s.paths[p] with est := s.paths[p].est.map (fun x => min x (16 * e.maxPlausible)) }
          else s.paths[p]) ∧
        t = { s.working with estimator := e, paths := t.paths })

/-- SET_ROUTE, SET_RING and SET_RING_GROUP, executed with their clamps (R121, R139, R175, R169, R170). The result record's
lower word is offered first by the model's choice (log 33). -/
def Obligations.RouteAndRingCommandsTakeEffect : Prop :=
  ∀ (s : State) (c : Command) (args : ArgWords), s.fetched c →
    let a := argNat args
    (∀ (r : Fin 4) (list : List (Fin 8)), c.opcode = 0x0C → s.cu.lockLevel < 3 → a 1 = r.val → a 2 = list.length →
      list.length ≤ 4 → list.Nodup →
      (∀ (i : Nat) (p : Fin 8), list[i]? = some p → ((argWord args 3).extractLsb' (8 * i) 8).toNat = p.val) →
      let interval := min (a 4) 255
      let resync := max 1 (min (a 5) 64)
      exec (.setRoute args) s = .next
        (({ s.working with
            routes := s.routes.set r
              { s.routes[r] with preload := list, preloadInterval := interval, pending := true }
            mergers := s.mergers.set r { s.mergers[r] with resyncCount := resync } } : State).answered c
          (if 255 < a 4 then ⟨.doneClamped, 7, 0⟩ else if resync ≠ a 5 then ⟨.doneClamped, 8, 0⟩ else ⟨.done, 0, 0⟩))) ∧
    (∀ k : Fin 2, c.opcode = 0x08 → s.cu.lockLevel < 2 → a 1 = k.val →
      let x := s.rings[k]
      let g := max 2 (min (a 2) 16)
      let b := max 1 (min (a 3) 256)
      let i := max 1 (min (a 4) 16)
      let same := g = x.groups ∧ b = x.perGroup ∧ i = x.irqGroups
      ∃ mask : BitVec 10, (∀ n, n < 10 → mask.getLsbD n = ((argWord args 5).getLsbD n && n != 0)) ∧
        exec (.setRing args) s = .next
          (({ s.working with
              rings := s.rings.set k
                { x with
                  groups := g, perGroup := b, irqGroups := i, mask := mask
                  group := if same then x.group else 0, position := if same then x.position else 0
                  completed := if same then x.completed else 0, consumer := if same then x.consumer else 0 } } : State).answered c
            (if g ≠ a 2 then ⟨.doneClamped, 2, 0⟩ else if b ≠ a 3 then ⟨.doneClamped, 3, 0⟩
            else if i ≠ a 4 then ⟨.doneClamped, 4, 0⟩ else ⟨.done, 0, 0⟩))) ∧
    (∀ (k : Fin 2) (group : Fin 16), c.opcode = 0x09 → s.cu.lockLevel < 2 → a 1 = k.val → a 2 = group.val →
      ((argWord args 3).setWidth 32 : BitVec 32).toNat % 64 = 0 →
      exec (.setRingGroup args) s = .next
        (({ s.working with
            rings := s.rings.set k
              { s.rings[k] with bases := s.rings[k].bases.set group (some ((argWord args 3).setWidth 32)) } } : State).answered c
          ⟨.done, 0, 0⟩))

/-- PATH_ADMIN: ENABLE takes a DISABLED path to PROBATION, or to CUT under an asserted line, and changes no other path's
state (R113, R156); DISABLE takes any other state to DISABLED (R114); FORCE_DOWN takes a path in service DOWN and
clears a DOWN path's counters (R115); RELEASE_CUT takes a CUT path to PROBATION unless the line is asserted (R158).
The value word carries the line's filtered level (R171). The result record's lower word is offered first by the
model's choice (log 33). -/
def Obligations.PathAdminFollowsTheState : Prop :=
  ∀ (s : State) (c : Command) (args : ArgWords) (p : Fin 8), s.fetched c → c.opcode = 0x0D → argNat args 1 = p.val →
    let x := s.paths[p]
    let value : Word := if s.cut.level then 1 else 0
    let cleared : PathRecord := { x with belowFade := 0, belowDown := 0, aboveRecover := 0 }
    let onProbation : Nat → PathRecord := fun cause =>
      { cleared with
        state := .probation, lastCause := cause, countdown := x.hs.probation, timer := some s.tb.runNs, est := none
        jit := 0, rxCount := 0, rxAge := 0, farEpoch := none, nearEpoch := none, expected := none }
    let gives : Instr → Status → PathRecord → Prop := fun i status y =>
      ∃ t : State, exec i s = .next (t.answered c ⟨status, 0, value⟩) ∧ t.paths = s.paths.set p y ∧
        (y.state = x.state → t.routes = s.routes ∧ t.rings = s.rings ∧ t.writeList = s.writeList) ∧
        t = { s.working with paths := t.paths, routes := t.routes, rings := t.rings, writeList := t.writeList }
    (argNat args 2 = 0 → gives (.pathAdminEnable args) .done
      (if x.state = .disabled then
        if x.set.cutEnable = true ∧ s.cut.level = true then { cleared with state := .cut, lastCause := 1, countdown := 0 }
        else onProbation 1
      else x)) ∧
    (argNat args 2 = 1 → s.cu.lockLevel < 3 → gives (.pathAdminDisable args) .done
      (if x.state = .disabled then x
      else { cleared with state := .disabled, lastCause := 2, timer := none, farEnd := none, countdown := 0 })) ∧
    (argNat args 2 = 2 → gives (.pathAdminForceDown args) .done
      (match x.state with
       | .up | .fading | .probation => { cleared with state := .down, lastCause := 3 }
       | .down => cleared
       | .cut | .disabled => x)) ∧
    (argNat args 2 = 3 → gives (.pathAdminReleaseCut args)
      (if x.state = .cut ∧ s.cut.level = true then .lineActive else .done)
      (if x.state = .cut ∧ s.cut.level = false then onProbation 17 else x))

/-- RAISE_LOCK stores a level at or above the present one, refuses a lower one LOCKED and one above 3 BAD_ARGUMENT, and
its value word carries the level after it (R165); GENERATE makes an update event, a capture or a cut event at once
(R62, R45, R154, R171). The result record's lower word is offered first by the model's choice (log 33). -/
def Obligations.RaiseLockAndGenerateTakeEffect : Prop :=
  ∀ (s : State) (c : Command) (args : ArgWords), s.fetched c →
    let n := argNat args 1
    let b := s.tb
    (c.opcode = 0x0F →
      (3 < n → exec (.raiseLock args) s =
        .next (s.working.answered c ⟨.badArgument, 1, BitVec.ofNat 64 s.cu.lockLevel⟩)) ∧
      (n ≤ 3 → n < s.cu.lockLevel → exec (.raiseLock args) s =
        .next (s.working.answered c ⟨.locked, 0, BitVec.ofNat 64 s.cu.lockLevel⟩)) ∧
      (n ≤ 3 → s.cu.lockLevel ≤ n → exec (.raiseLock args) s =
        .next (({ s.working with cu := { s.cu with lockLevel := n } } : State).answered c ⟨.done, 0, BitVec.ofNat 64 n⟩))) ∧
    (c.opcode = 0x10 → s.cu.lockLevel = 0 →
      (n = 0 → exec (.generateUpdate args) s = .next
        ((updateEvent false (Config.updateOrder s.choice) { s.working with choice := s.choice + 1 }).answered c ⟨.done, 0, 0⟩)) ∧
      (n = 1 → exec (.generateRefPulse args) s = .next
        ((s.working.setTb
          { b with
            current := some ⟨b.time.sec, b.time.ns, b.runNs, .generated, false⟩, previous := b.current
            overcapture := b.overcapture || (match b.current with | some x => !x.used | none => false) }).answered
          c ⟨.done, 0, 0⟩)) ∧
      (n = 2 → ∃ t : State, exec (.generateCut args) s = .next (t.answered c ⟨.done, 0, 0⟩) ∧
        (∀ p : Fin 8,
          let x := s.paths[p]
          t.paths[p] =
            if x.set.cutEnable = true ∧ x.state ≠ .cut ∧ x.state ≠ .disabled then
              { x with state := .cut, lastCause := 16, belowFade := 0, belowDown := 0, aboveRecover := 0, countdown := 0 }
            else x) ∧
        t = { s.working with paths := t.paths, routes := t.routes, rings := t.rings, writeList := t.writeList }))

/-- SNAPSHOT copies the object's words at once and offers the first at page offset 0x100, and with its last word admitted
presents DONE with the number of words (R172). A record has the words of its table, at their places: 37 of the time
base (R63), 74 of a path (R118), 388 of a route (R138, R152), 45 of a ring (R183); zeros for an EMPTY capture, for the
start time of a stopped timer, for the age of a clear far-end condition and for an absent group base are the model's
(log 34, log 16, log 39). RESTART
at lock level 0 starts the drain (R173); its reset, once the Write Queue is empty, no offer waits and every read has
returned, gives the tables their values, keeps the Time Base, the line's level, the page base and the lock level, and
presents the result (R173, R5, R8, R33, R79, R84, R97, R119, R139, R175). The result record's lower word is offered
first by the model's choice (log 33). -/
def Obligations.SnapshotAndRestartTakeTheirTime : Prop :=
  ∀ (s : State) (c : Command),
    (∀ (args : ArgWords) (x : Word) (xs : List Word), s.fetched c → c.opcode = 0x11 →
      (argNat args 1 = 0 ∧ argNat args 2 = 0 ∧ x :: xs = timeBaseWords s.tb ∨
        (∃ p : Fin 8, argNat args 1 = 1 ∧ argNat args 2 = p.val ∧ x :: xs = s.pathWords p) ∨
        (∃ r : Fin 4, argNat args 1 = 2 ∧ argNat args 2 = r.val ∧ x :: xs = s.routeWords r) ∨
        (∃ k : Fin 2, argNat args 1 = 3 ∧ argNat args 2 = k.val ∧ x :: xs = s.ringWords k)) →
      exec (.snapshot args) s = .next
        { s.working with
          cu := { s.cu with state := .executing c (.writing xs 0x108) }
          offers := s.offers ++ [⟨.snapshotWord, [⟨s.pageBase + 0x100, [⟨x, 0xFF⟩], .commandUnit⟩]⟩] }) ∧
    ((timeBaseWords s.tb).length = 37 ∧ laidOut (timeBaseWords s.tb) (timeBaseRows s.tb)) ∧
    (∀ p : Fin 8, (s.pathWords p).length = 74 ∧ laidOut (s.pathWords p) (s.pathRows p)) ∧
    (∀ r : Fin 4, s.mergers[r].table.length = 64 →
      (s.routeWords r).length = 388 ∧ laidOut (s.routeWords r) (s.routeRows r)) ∧
    (∀ k : Fin 2, (s.ringWords k).length = 45 ∧ laidOut (s.ringWords k) (s.ringRows k)) ∧
    (∀ (ws : List MemWrite) (os : List Offer) (words : Nat),
      s.offers = ⟨.snapshotWord, ws⟩ :: os → os.any Offer.isCommandUnit = false → s.cu.refusal = none →
      s.occupied + entriesOf ws ≤ 64 → s.cu.state = .executing c (.writing [] (0x100 + 8 * words)) →
      exec .offerAdmit s = .next
        (({ s with bus := [], offers := os, queue := s.queue ++ ws } : State).answered c
          ⟨.done, 0, BitVec.ofNat 64 words⟩)) ∧
    (∀ args : ArgWords, s.fetched c → c.opcode = 0x12 → s.cu.lockLevel = 0 →
      exec (.restart args) s = .next { s.working with cu := { s.cu with state := .executing c .draining } }) ∧
    (s.cu.state = .executing c .draining → s.queue = [] → s.offers = [] → s.reads = [] → s.portWaiting = [] →
      s.cu.refusal = none →
      ∃ t : State, exec .restartReset s = .next (t.answered c ⟨.done, 0, 0⟩) ∧
        (∀ tag : Fin 16, t.agents[tag] =
          if tag = c.agent then s.agents[tag] else if tag = s.mgmtTag then ⟨.management, 0⟩ else ⟨.none, 0⟩) ∧
        (∀ i : Fin 8, t.windows[i] = ⟨⟨false, .plain, 0, 0, 0, 0, false⟩, ⟨false, .plain, 0, 0, 0, 0, false⟩, false⟩) ∧
        t.layout = ⟨0, 0⟩ ∧ (∀ r : Fin 4, t.steer[r] = ⟨[], 0, 0, 0, 0, 0, 0, false⟩) ∧ (∀ p : Fin 8, t.pathSeq[p] = 0) ∧
        (∀ p : Fin 8, t.arrivals[p] = [] ∧ t.overflows[p] = 0 ∧ t.paths[p] = State.reset.paths[p]) ∧
        t.estimator = ⟨6, 4, 4, 20000000, 20, 50, true⟩ ∧
        (∀ r : Fin 4, t.routes[r] = ⟨[], [], 10, false, ⟨.dark, none, none⟩, 10, 10, 0, 0⟩ ∧
          t.mergers[r] = State.reset.mergers[r]) ∧
        (∀ k : Fin 2, t.rings[k] = ⟨2, 16, 1, 0, Vector.replicate 16 none, 0, 0, 0, 0, 0, 0, false⟩) ∧
        t.writeList = (if s.irqAsserted then [.status] else []) ∧ t.fairCount = 0 ∧
        t = { s with
          bus := [], agents := t.agents, windows := t.windows, layout := t.layout, steer := t.steer, pathSeq := t.pathSeq
          arrivals := t.arrivals, overflows := t.overflows, paths := t.paths, estimator := t.estimator, routes := t.routes
          mergers := t.mergers, rings := t.rings, writeList := t.writeList, fairCount := 0 }) ∧
    (s.cu.state = .executing c .draining → s.queue ≠ [] ∨ s.offers ≠ [] ∨ s.reads ≠ [] →
      exec .restartReset s = .next { s with bus := [] })
end

