-- ==== Sys2Proof/Laws/State.lean ====
section
/-! SUPPORT. One lemma for each field of each update of State: the field's new value, or that the update leaves it. -/

namespace Sys2Proof.Machine

/-! ### State.setPathRec -/

@[simp] theorem setPathRec_pending (s : State) (p : Path) (x : PathRecord) : (s.setPathRec p x).pending = s.pending := rfl
@[simp] theorem setPathRec_choice (s : State) (p : Path) (x : PathRecord) : (s.setPathRec p x).choice = s.choice := rfl
@[simp] theorem setPathRec_bus (s : State) (p : Path) (x : PathRecord) : (s.setPathRec p x).bus = s.bus := rfl
@[simp] theorem setPathRec_agents (s : State) (p : Path) (x : PathRecord) : (s.setPathRec p x).agents = s.agents := rfl
@[simp] theorem setPathRec_windows (s : State) (p : Path) (x : PathRecord) : (s.setPathRec p x).windows = s.windows := rfl
@[simp] theorem setPathRec_ctlBase (s : State) (p : Path) (x : PathRecord) : (s.setPathRec p x).ctlBase = s.ctlBase := rfl
@[simp] theorem setPathRec_mgmtTag (s : State) (p : Path) (x : PathRecord) : (s.setPathRec p x).mgmtTag = s.mgmtTag := rfl
@[simp] theorem setPathRec_portWaiting (s : State) (p : Path) (x : PathRecord) : (s.setPathRec p x).portWaiting = s.portWaiting := rfl
@[simp] theorem setPathRec_reads (s : State) (p : Path) (x : PathRecord) : (s.setPathRec p x).reads = s.reads := rfl
@[simp] theorem setPathRec_readWait (s : State) (p : Path) (x : PathRecord) : (s.setPathRec p x).readWait = s.readWait := rfl
@[simp] theorem setPathRec_readReady (s : State) (p : Path) (x : PathRecord) : (s.setPathRec p x).readReady = s.readReady := rfl
@[simp] theorem setPathRec_readIssued (s : State) (p : Path) (x : PathRecord) : (s.setPathRec p x).readIssued = s.readIssued := rfl
@[simp] theorem setPathRec_fairCount (s : State) (p : Path) (x : PathRecord) : (s.setPathRec p x).fairCount = s.fairCount := rfl
@[simp] theorem setPathRec_nextRead (s : State) (p : Path) (x : PathRecord) : (s.setPathRec p x).nextRead = s.nextRead := rfl
@[simp] theorem setPathRec_layout (s : State) (p : Path) (x : PathRecord) : (s.setPathRec p x).layout = s.layout := rfl
@[simp] theorem setPathRec_steer (s : State) (p : Path) (x : PathRecord) : (s.setPathRec p x).steer = s.steer := rfl
@[simp] theorem setPathRec_pathSeq (s : State) (p : Path) (x : PathRecord) : (s.setPathRec p x).pathSeq = s.pathSeq := rfl
@[simp] theorem setPathRec_queue (s : State) (p : Path) (x : PathRecord) : (s.setPathRec p x).queue = s.queue := rfl
@[simp] theorem setPathRec_offers (s : State) (p : Path) (x : PathRecord) : (s.setPathRec p x).offers = s.offers := rfl
@[simp] theorem setPathRec_tb (s : State) (p : Path) (x : PathRecord) : (s.setPathRec p x).tb = s.tb := rfl
@[simp] theorem setPathRec_arrivals (s : State) (p : Path) (x : PathRecord) : (s.setPathRec p x).arrivals = s.arrivals := rfl
@[simp] theorem setPathRec_overflows (s : State) (p : Path) (x : PathRecord) : (s.setPathRec p x).overflows = s.overflows := rfl
@[simp] theorem setPathRec_paths (s : State) (p : Path) (x : PathRecord) : (s.setPathRec p x).paths = s.paths.set p x p.isLt := rfl
@[simp] theorem setPathRec_estimator (s : State) (p : Path) (x : PathRecord) : (s.setPathRec p x).estimator = s.estimator := rfl
@[simp] theorem setPathRec_routes (s : State) (p : Path) (x : PathRecord) : (s.setPathRec p x).routes = s.routes := rfl
@[simp] theorem setPathRec_mergers (s : State) (p : Path) (x : PathRecord) : (s.setPathRec p x).mergers = s.mergers := rfl
@[simp] theorem setPathRec_cut (s : State) (p : Path) (x : PathRecord) : (s.setPathRec p x).cut = s.cut := rfl
@[simp] theorem setPathRec_cu (s : State) (p : Path) (x : PathRecord) : (s.setPathRec p x).cu = s.cu := rfl
@[simp] theorem setPathRec_rings (s : State) (p : Path) (x : PathRecord) : (s.setPathRec p x).rings = s.rings := rfl
@[simp] theorem setPathRec_writeList (s : State) (p : Path) (x : PathRecord) : (s.setPathRec p x).writeList = s.writeList := rfl

/-! ### State.setRouteRec -/

@[simp] theorem setRouteRec_pending (s : State) (r : Route) (x : RouteRecord) : (s.setRouteRec r x).pending = s.pending := rfl
@[simp] theorem setRouteRec_choice (s : State) (r : Route) (x : RouteRecord) : (s.setRouteRec r x).choice = s.choice := rfl
@[simp] theorem setRouteRec_bus (s : State) (r : Route) (x : RouteRecord) : (s.setRouteRec r x).bus = s.bus := rfl
@[simp] theorem setRouteRec_agents (s : State) (r : Route) (x : RouteRecord) : (s.setRouteRec r x).agents = s.agents := rfl
@[simp] theorem setRouteRec_windows (s : State) (r : Route) (x : RouteRecord) : (s.setRouteRec r x).windows = s.windows := rfl
@[simp] theorem setRouteRec_ctlBase (s : State) (r : Route) (x : RouteRecord) : (s.setRouteRec r x).ctlBase = s.ctlBase := rfl
@[simp] theorem setRouteRec_mgmtTag (s : State) (r : Route) (x : RouteRecord) : (s.setRouteRec r x).mgmtTag = s.mgmtTag := rfl
@[simp] theorem setRouteRec_portWaiting (s : State) (r : Route) (x : RouteRecord) : (s.setRouteRec r x).portWaiting = s.portWaiting := rfl
@[simp] theorem setRouteRec_reads (s : State) (r : Route) (x : RouteRecord) : (s.setRouteRec r x).reads = s.reads := rfl
@[simp] theorem setRouteRec_readWait (s : State) (r : Route) (x : RouteRecord) : (s.setRouteRec r x).readWait = s.readWait := rfl
@[simp] theorem setRouteRec_readReady (s : State) (r : Route) (x : RouteRecord) : (s.setRouteRec r x).readReady = s.readReady := rfl
@[simp] theorem setRouteRec_readIssued (s : State) (r : Route) (x : RouteRecord) : (s.setRouteRec r x).readIssued = s.readIssued := rfl
@[simp] theorem setRouteRec_fairCount (s : State) (r : Route) (x : RouteRecord) : (s.setRouteRec r x).fairCount = s.fairCount := rfl
@[simp] theorem setRouteRec_nextRead (s : State) (r : Route) (x : RouteRecord) : (s.setRouteRec r x).nextRead = s.nextRead := rfl
@[simp] theorem setRouteRec_layout (s : State) (r : Route) (x : RouteRecord) : (s.setRouteRec r x).layout = s.layout := rfl
@[simp] theorem setRouteRec_steer (s : State) (r : Route) (x : RouteRecord) : (s.setRouteRec r x).steer = s.steer := rfl
@[simp] theorem setRouteRec_pathSeq (s : State) (r : Route) (x : RouteRecord) : (s.setRouteRec r x).pathSeq = s.pathSeq := rfl
@[simp] theorem setRouteRec_queue (s : State) (r : Route) (x : RouteRecord) : (s.setRouteRec r x).queue = s.queue := rfl
@[simp] theorem setRouteRec_offers (s : State) (r : Route) (x : RouteRecord) : (s.setRouteRec r x).offers = s.offers := rfl
@[simp] theorem setRouteRec_tb (s : State) (r : Route) (x : RouteRecord) : (s.setRouteRec r x).tb = s.tb := rfl
@[simp] theorem setRouteRec_arrivals (s : State) (r : Route) (x : RouteRecord) : (s.setRouteRec r x).arrivals = s.arrivals := rfl
@[simp] theorem setRouteRec_overflows (s : State) (r : Route) (x : RouteRecord) : (s.setRouteRec r x).overflows = s.overflows := rfl
@[simp] theorem setRouteRec_paths (s : State) (r : Route) (x : RouteRecord) : (s.setRouteRec r x).paths = s.paths := rfl
@[simp] theorem setRouteRec_estimator (s : State) (r : Route) (x : RouteRecord) : (s.setRouteRec r x).estimator = s.estimator := rfl
@[simp] theorem setRouteRec_routes (s : State) (r : Route) (x : RouteRecord) : (s.setRouteRec r x).routes = s.routes.set r x r.isLt := rfl
@[simp] theorem setRouteRec_mergers (s : State) (r : Route) (x : RouteRecord) : (s.setRouteRec r x).mergers = s.mergers := rfl
@[simp] theorem setRouteRec_cut (s : State) (r : Route) (x : RouteRecord) : (s.setRouteRec r x).cut = s.cut := rfl
@[simp] theorem setRouteRec_cu (s : State) (r : Route) (x : RouteRecord) : (s.setRouteRec r x).cu = s.cu := rfl
@[simp] theorem setRouteRec_rings (s : State) (r : Route) (x : RouteRecord) : (s.setRouteRec r x).rings = s.rings := rfl
@[simp] theorem setRouteRec_writeList (s : State) (r : Route) (x : RouteRecord) : (s.setRouteRec r x).writeList = s.writeList := rfl

/-! ### State.setSteer -/

@[simp] theorem setSteer_pending (s : State) (r : Route) (x : SteerRoute) : (s.setSteer r x).pending = s.pending := rfl
@[simp] theorem setSteer_choice (s : State) (r : Route) (x : SteerRoute) : (s.setSteer r x).choice = s.choice := rfl
@[simp] theorem setSteer_bus (s : State) (r : Route) (x : SteerRoute) : (s.setSteer r x).bus = s.bus := rfl
@[simp] theorem setSteer_agents (s : State) (r : Route) (x : SteerRoute) : (s.setSteer r x).agents = s.agents := rfl
@[simp] theorem setSteer_windows (s : State) (r : Route) (x : SteerRoute) : (s.setSteer r x).windows = s.windows := rfl
@[simp] theorem setSteer_ctlBase (s : State) (r : Route) (x : SteerRoute) : (s.setSteer r x).ctlBase = s.ctlBase := rfl
@[simp] theorem setSteer_mgmtTag (s : State) (r : Route) (x : SteerRoute) : (s.setSteer r x).mgmtTag = s.mgmtTag := rfl
@[simp] theorem setSteer_portWaiting (s : State) (r : Route) (x : SteerRoute) : (s.setSteer r x).portWaiting = s.portWaiting := rfl
@[simp] theorem setSteer_reads (s : State) (r : Route) (x : SteerRoute) : (s.setSteer r x).reads = s.reads := rfl
@[simp] theorem setSteer_readWait (s : State) (r : Route) (x : SteerRoute) : (s.setSteer r x).readWait = s.readWait := rfl
@[simp] theorem setSteer_readReady (s : State) (r : Route) (x : SteerRoute) : (s.setSteer r x).readReady = s.readReady := rfl
@[simp] theorem setSteer_readIssued (s : State) (r : Route) (x : SteerRoute) : (s.setSteer r x).readIssued = s.readIssued := rfl
@[simp] theorem setSteer_fairCount (s : State) (r : Route) (x : SteerRoute) : (s.setSteer r x).fairCount = s.fairCount := rfl
@[simp] theorem setSteer_nextRead (s : State) (r : Route) (x : SteerRoute) : (s.setSteer r x).nextRead = s.nextRead := rfl
@[simp] theorem setSteer_layout (s : State) (r : Route) (x : SteerRoute) : (s.setSteer r x).layout = s.layout := rfl
@[simp] theorem setSteer_steer (s : State) (r : Route) (x : SteerRoute) : (s.setSteer r x).steer = s.steer.set r x r.isLt := rfl
@[simp] theorem setSteer_pathSeq (s : State) (r : Route) (x : SteerRoute) : (s.setSteer r x).pathSeq = s.pathSeq := rfl
@[simp] theorem setSteer_queue (s : State) (r : Route) (x : SteerRoute) : (s.setSteer r x).queue = s.queue := rfl
@[simp] theorem setSteer_offers (s : State) (r : Route) (x : SteerRoute) : (s.setSteer r x).offers = s.offers := rfl
@[simp] theorem setSteer_tb (s : State) (r : Route) (x : SteerRoute) : (s.setSteer r x).tb = s.tb := rfl
@[simp] theorem setSteer_arrivals (s : State) (r : Route) (x : SteerRoute) : (s.setSteer r x).arrivals = s.arrivals := rfl
@[simp] theorem setSteer_overflows (s : State) (r : Route) (x : SteerRoute) : (s.setSteer r x).overflows = s.overflows := rfl
@[simp] theorem setSteer_paths (s : State) (r : Route) (x : SteerRoute) : (s.setSteer r x).paths = s.paths := rfl
@[simp] theorem setSteer_estimator (s : State) (r : Route) (x : SteerRoute) : (s.setSteer r x).estimator = s.estimator := rfl
@[simp] theorem setSteer_routes (s : State) (r : Route) (x : SteerRoute) : (s.setSteer r x).routes = s.routes := rfl
@[simp] theorem setSteer_mergers (s : State) (r : Route) (x : SteerRoute) : (s.setSteer r x).mergers = s.mergers := rfl
@[simp] theorem setSteer_cut (s : State) (r : Route) (x : SteerRoute) : (s.setSteer r x).cut = s.cut := rfl
@[simp] theorem setSteer_cu (s : State) (r : Route) (x : SteerRoute) : (s.setSteer r x).cu = s.cu := rfl
@[simp] theorem setSteer_rings (s : State) (r : Route) (x : SteerRoute) : (s.setSteer r x).rings = s.rings := rfl
@[simp] theorem setSteer_writeList (s : State) (r : Route) (x : SteerRoute) : (s.setSteer r x).writeList = s.writeList := rfl

/-! ### State.setMerger -/

@[simp] theorem setMerger_pending (s : State) (r : Route) (x : MergeRecord) : (s.setMerger r x).pending = s.pending := rfl
@[simp] theorem setMerger_choice (s : State) (r : Route) (x : MergeRecord) : (s.setMerger r x).choice = s.choice := rfl
@[simp] theorem setMerger_bus (s : State) (r : Route) (x : MergeRecord) : (s.setMerger r x).bus = s.bus := rfl
@[simp] theorem setMerger_agents (s : State) (r : Route) (x : MergeRecord) : (s.setMerger r x).agents = s.agents := rfl
@[simp] theorem setMerger_windows (s : State) (r : Route) (x : MergeRecord) : (s.setMerger r x).windows = s.windows := rfl
@[simp] theorem setMerger_ctlBase (s : State) (r : Route) (x : MergeRecord) : (s.setMerger r x).ctlBase = s.ctlBase := rfl
@[simp] theorem setMerger_mgmtTag (s : State) (r : Route) (x : MergeRecord) : (s.setMerger r x).mgmtTag = s.mgmtTag := rfl
@[simp] theorem setMerger_portWaiting (s : State) (r : Route) (x : MergeRecord) : (s.setMerger r x).portWaiting = s.portWaiting := rfl
@[simp] theorem setMerger_reads (s : State) (r : Route) (x : MergeRecord) : (s.setMerger r x).reads = s.reads := rfl
@[simp] theorem setMerger_readWait (s : State) (r : Route) (x : MergeRecord) : (s.setMerger r x).readWait = s.readWait := rfl
@[simp] theorem setMerger_readReady (s : State) (r : Route) (x : MergeRecord) : (s.setMerger r x).readReady = s.readReady := rfl
@[simp] theorem setMerger_readIssued (s : State) (r : Route) (x : MergeRecord) : (s.setMerger r x).readIssued = s.readIssued := rfl
@[simp] theorem setMerger_fairCount (s : State) (r : Route) (x : MergeRecord) : (s.setMerger r x).fairCount = s.fairCount := rfl
@[simp] theorem setMerger_nextRead (s : State) (r : Route) (x : MergeRecord) : (s.setMerger r x).nextRead = s.nextRead := rfl
@[simp] theorem setMerger_layout (s : State) (r : Route) (x : MergeRecord) : (s.setMerger r x).layout = s.layout := rfl
@[simp] theorem setMerger_steer (s : State) (r : Route) (x : MergeRecord) : (s.setMerger r x).steer = s.steer := rfl
@[simp] theorem setMerger_pathSeq (s : State) (r : Route) (x : MergeRecord) : (s.setMerger r x).pathSeq = s.pathSeq := rfl
@[simp] theorem setMerger_queue (s : State) (r : Route) (x : MergeRecord) : (s.setMerger r x).queue = s.queue := rfl
@[simp] theorem setMerger_offers (s : State) (r : Route) (x : MergeRecord) : (s.setMerger r x).offers = s.offers := rfl
@[simp] theorem setMerger_tb (s : State) (r : Route) (x : MergeRecord) : (s.setMerger r x).tb = s.tb := rfl
@[simp] theorem setMerger_arrivals (s : State) (r : Route) (x : MergeRecord) : (s.setMerger r x).arrivals = s.arrivals := rfl
@[simp] theorem setMerger_overflows (s : State) (r : Route) (x : MergeRecord) : (s.setMerger r x).overflows = s.overflows := rfl
@[simp] theorem setMerger_paths (s : State) (r : Route) (x : MergeRecord) : (s.setMerger r x).paths = s.paths := rfl
@[simp] theorem setMerger_estimator (s : State) (r : Route) (x : MergeRecord) : (s.setMerger r x).estimator = s.estimator := rfl
@[simp] theorem setMerger_routes (s : State) (r : Route) (x : MergeRecord) : (s.setMerger r x).routes = s.routes := rfl
@[simp] theorem setMerger_mergers (s : State) (r : Route) (x : MergeRecord) : (s.setMerger r x).mergers = s.mergers.set r x r.isLt := rfl
@[simp] theorem setMerger_cut (s : State) (r : Route) (x : MergeRecord) : (s.setMerger r x).cut = s.cut := rfl
@[simp] theorem setMerger_cu (s : State) (r : Route) (x : MergeRecord) : (s.setMerger r x).cu = s.cu := rfl
@[simp] theorem setMerger_rings (s : State) (r : Route) (x : MergeRecord) : (s.setMerger r x).rings = s.rings := rfl
@[simp] theorem setMerger_writeList (s : State) (r : Route) (x : MergeRecord) : (s.setMerger r x).writeList = s.writeList := rfl

/-! ### State.setArrivals -/

@[simp] theorem setArrivals_pending (s : State) (p : Path) (x : List PendingArrival) : (s.setArrivals p x).pending = s.pending := rfl
@[simp] theorem setArrivals_choice (s : State) (p : Path) (x : List PendingArrival) : (s.setArrivals p x).choice = s.choice := rfl
@[simp] theorem setArrivals_bus (s : State) (p : Path) (x : List PendingArrival) : (s.setArrivals p x).bus = s.bus := rfl
@[simp] theorem setArrivals_agents (s : State) (p : Path) (x : List PendingArrival) : (s.setArrivals p x).agents = s.agents := rfl
@[simp] theorem setArrivals_windows (s : State) (p : Path) (x : List PendingArrival) : (s.setArrivals p x).windows = s.windows := rfl
@[simp] theorem setArrivals_ctlBase (s : State) (p : Path) (x : List PendingArrival) : (s.setArrivals p x).ctlBase = s.ctlBase := rfl
@[simp] theorem setArrivals_mgmtTag (s : State) (p : Path) (x : List PendingArrival) : (s.setArrivals p x).mgmtTag = s.mgmtTag := rfl
@[simp] theorem setArrivals_portWaiting (s : State) (p : Path) (x : List PendingArrival) : (s.setArrivals p x).portWaiting = s.portWaiting := rfl
@[simp] theorem setArrivals_reads (s : State) (p : Path) (x : List PendingArrival) : (s.setArrivals p x).reads = s.reads := rfl
@[simp] theorem setArrivals_readWait (s : State) (p : Path) (x : List PendingArrival) : (s.setArrivals p x).readWait = s.readWait := rfl
@[simp] theorem setArrivals_readReady (s : State) (p : Path) (x : List PendingArrival) : (s.setArrivals p x).readReady = s.readReady := rfl
@[simp] theorem setArrivals_readIssued (s : State) (p : Path) (x : List PendingArrival) : (s.setArrivals p x).readIssued = s.readIssued := rfl
@[simp] theorem setArrivals_fairCount (s : State) (p : Path) (x : List PendingArrival) : (s.setArrivals p x).fairCount = s.fairCount := rfl
@[simp] theorem setArrivals_nextRead (s : State) (p : Path) (x : List PendingArrival) : (s.setArrivals p x).nextRead = s.nextRead := rfl
@[simp] theorem setArrivals_layout (s : State) (p : Path) (x : List PendingArrival) : (s.setArrivals p x).layout = s.layout := rfl
@[simp] theorem setArrivals_steer (s : State) (p : Path) (x : List PendingArrival) : (s.setArrivals p x).steer = s.steer := rfl
@[simp] theorem setArrivals_pathSeq (s : State) (p : Path) (x : List PendingArrival) : (s.setArrivals p x).pathSeq = s.pathSeq := rfl
@[simp] theorem setArrivals_queue (s : State) (p : Path) (x : List PendingArrival) : (s.setArrivals p x).queue = s.queue := rfl
@[simp] theorem setArrivals_offers (s : State) (p : Path) (x : List PendingArrival) : (s.setArrivals p x).offers = s.offers := rfl
@[simp] theorem setArrivals_tb (s : State) (p : Path) (x : List PendingArrival) : (s.setArrivals p x).tb = s.tb := rfl
@[simp] theorem setArrivals_arrivals (s : State) (p : Path) (x : List PendingArrival) : (s.setArrivals p x).arrivals = s.arrivals.set p x p.isLt := rfl
@[simp] theorem setArrivals_overflows (s : State) (p : Path) (x : List PendingArrival) : (s.setArrivals p x).overflows = s.overflows := rfl
@[simp] theorem setArrivals_paths (s : State) (p : Path) (x : List PendingArrival) : (s.setArrivals p x).paths = s.paths := rfl
@[simp] theorem setArrivals_estimator (s : State) (p : Path) (x : List PendingArrival) : (s.setArrivals p x).estimator = s.estimator := rfl
@[simp] theorem setArrivals_routes (s : State) (p : Path) (x : List PendingArrival) : (s.setArrivals p x).routes = s.routes := rfl
@[simp] theorem setArrivals_mergers (s : State) (p : Path) (x : List PendingArrival) : (s.setArrivals p x).mergers = s.mergers := rfl
@[simp] theorem setArrivals_cut (s : State) (p : Path) (x : List PendingArrival) : (s.setArrivals p x).cut = s.cut := rfl
@[simp] theorem setArrivals_cu (s : State) (p : Path) (x : List PendingArrival) : (s.setArrivals p x).cu = s.cu := rfl
@[simp] theorem setArrivals_rings (s : State) (p : Path) (x : List PendingArrival) : (s.setArrivals p x).rings = s.rings := rfl
@[simp] theorem setArrivals_writeList (s : State) (p : Path) (x : List PendingArrival) : (s.setArrivals p x).writeList = s.writeList := rfl

/-! ### State.setWindowEntry -/

@[simp] theorem setWindowEntry_pending (s : State) (i : Fin 8) (x : WindowEntry) : (s.setWindowEntry i x).pending = s.pending := rfl
@[simp] theorem setWindowEntry_choice (s : State) (i : Fin 8) (x : WindowEntry) : (s.setWindowEntry i x).choice = s.choice := rfl
@[simp] theorem setWindowEntry_bus (s : State) (i : Fin 8) (x : WindowEntry) : (s.setWindowEntry i x).bus = s.bus := rfl
@[simp] theorem setWindowEntry_agents (s : State) (i : Fin 8) (x : WindowEntry) : (s.setWindowEntry i x).agents = s.agents := rfl
@[simp] theorem setWindowEntry_windows (s : State) (i : Fin 8) (x : WindowEntry) : (s.setWindowEntry i x).windows = s.windows.set i x i.isLt := rfl
@[simp] theorem setWindowEntry_ctlBase (s : State) (i : Fin 8) (x : WindowEntry) : (s.setWindowEntry i x).ctlBase = s.ctlBase := rfl
@[simp] theorem setWindowEntry_mgmtTag (s : State) (i : Fin 8) (x : WindowEntry) : (s.setWindowEntry i x).mgmtTag = s.mgmtTag := rfl
@[simp] theorem setWindowEntry_portWaiting (s : State) (i : Fin 8) (x : WindowEntry) : (s.setWindowEntry i x).portWaiting = s.portWaiting := rfl
@[simp] theorem setWindowEntry_reads (s : State) (i : Fin 8) (x : WindowEntry) : (s.setWindowEntry i x).reads = s.reads := rfl
@[simp] theorem setWindowEntry_readWait (s : State) (i : Fin 8) (x : WindowEntry) : (s.setWindowEntry i x).readWait = s.readWait := rfl
@[simp] theorem setWindowEntry_readReady (s : State) (i : Fin 8) (x : WindowEntry) : (s.setWindowEntry i x).readReady = s.readReady := rfl
@[simp] theorem setWindowEntry_readIssued (s : State) (i : Fin 8) (x : WindowEntry) : (s.setWindowEntry i x).readIssued = s.readIssued := rfl
@[simp] theorem setWindowEntry_fairCount (s : State) (i : Fin 8) (x : WindowEntry) : (s.setWindowEntry i x).fairCount = s.fairCount := rfl
@[simp] theorem setWindowEntry_nextRead (s : State) (i : Fin 8) (x : WindowEntry) : (s.setWindowEntry i x).nextRead = s.nextRead := rfl
@[simp] theorem setWindowEntry_layout (s : State) (i : Fin 8) (x : WindowEntry) : (s.setWindowEntry i x).layout = s.layout := rfl
@[simp] theorem setWindowEntry_steer (s : State) (i : Fin 8) (x : WindowEntry) : (s.setWindowEntry i x).steer = s.steer := rfl
@[simp] theorem setWindowEntry_pathSeq (s : State) (i : Fin 8) (x : WindowEntry) : (s.setWindowEntry i x).pathSeq = s.pathSeq := rfl
@[simp] theorem setWindowEntry_queue (s : State) (i : Fin 8) (x : WindowEntry) : (s.setWindowEntry i x).queue = s.queue := rfl
@[simp] theorem setWindowEntry_offers (s : State) (i : Fin 8) (x : WindowEntry) : (s.setWindowEntry i x).offers = s.offers := rfl
@[simp] theorem setWindowEntry_tb (s : State) (i : Fin 8) (x : WindowEntry) : (s.setWindowEntry i x).tb = s.tb := rfl
@[simp] theorem setWindowEntry_arrivals (s : State) (i : Fin 8) (x : WindowEntry) : (s.setWindowEntry i x).arrivals = s.arrivals := rfl
@[simp] theorem setWindowEntry_overflows (s : State) (i : Fin 8) (x : WindowEntry) : (s.setWindowEntry i x).overflows = s.overflows := rfl
@[simp] theorem setWindowEntry_paths (s : State) (i : Fin 8) (x : WindowEntry) : (s.setWindowEntry i x).paths = s.paths := rfl
@[simp] theorem setWindowEntry_estimator (s : State) (i : Fin 8) (x : WindowEntry) : (s.setWindowEntry i x).estimator = s.estimator := rfl
@[simp] theorem setWindowEntry_routes (s : State) (i : Fin 8) (x : WindowEntry) : (s.setWindowEntry i x).routes = s.routes := rfl
@[simp] theorem setWindowEntry_mergers (s : State) (i : Fin 8) (x : WindowEntry) : (s.setWindowEntry i x).mergers = s.mergers := rfl
@[simp] theorem setWindowEntry_cut (s : State) (i : Fin 8) (x : WindowEntry) : (s.setWindowEntry i x).cut = s.cut := rfl
@[simp] theorem setWindowEntry_cu (s : State) (i : Fin 8) (x : WindowEntry) : (s.setWindowEntry i x).cu = s.cu := rfl
@[simp] theorem setWindowEntry_rings (s : State) (i : Fin 8) (x : WindowEntry) : (s.setWindowEntry i x).rings = s.rings := rfl
@[simp] theorem setWindowEntry_writeList (s : State) (i : Fin 8) (x : WindowEntry) : (s.setWindowEntry i x).writeList = s.writeList := rfl

/-! ### State.setRing -/

@[simp] theorem setRing_pending (s : State) (r : RingId) (x : Ring) : (s.setRing r x).pending = s.pending := rfl
@[simp] theorem setRing_choice (s : State) (r : RingId) (x : Ring) : (s.setRing r x).choice = s.choice := rfl
@[simp] theorem setRing_bus (s : State) (r : RingId) (x : Ring) : (s.setRing r x).bus = s.bus := rfl
@[simp] theorem setRing_agents (s : State) (r : RingId) (x : Ring) : (s.setRing r x).agents = s.agents := rfl
@[simp] theorem setRing_windows (s : State) (r : RingId) (x : Ring) : (s.setRing r x).windows = s.windows := rfl
@[simp] theorem setRing_ctlBase (s : State) (r : RingId) (x : Ring) : (s.setRing r x).ctlBase = s.ctlBase := rfl
@[simp] theorem setRing_mgmtTag (s : State) (r : RingId) (x : Ring) : (s.setRing r x).mgmtTag = s.mgmtTag := rfl
@[simp] theorem setRing_portWaiting (s : State) (r : RingId) (x : Ring) : (s.setRing r x).portWaiting = s.portWaiting := rfl
@[simp] theorem setRing_reads (s : State) (r : RingId) (x : Ring) : (s.setRing r x).reads = s.reads := rfl
@[simp] theorem setRing_readWait (s : State) (r : RingId) (x : Ring) : (s.setRing r x).readWait = s.readWait := rfl
@[simp] theorem setRing_readReady (s : State) (r : RingId) (x : Ring) : (s.setRing r x).readReady = s.readReady := rfl
@[simp] theorem setRing_readIssued (s : State) (r : RingId) (x : Ring) : (s.setRing r x).readIssued = s.readIssued := rfl
@[simp] theorem setRing_fairCount (s : State) (r : RingId) (x : Ring) : (s.setRing r x).fairCount = s.fairCount := rfl
@[simp] theorem setRing_nextRead (s : State) (r : RingId) (x : Ring) : (s.setRing r x).nextRead = s.nextRead := rfl
@[simp] theorem setRing_layout (s : State) (r : RingId) (x : Ring) : (s.setRing r x).layout = s.layout := rfl
@[simp] theorem setRing_steer (s : State) (r : RingId) (x : Ring) : (s.setRing r x).steer = s.steer := rfl
@[simp] theorem setRing_pathSeq (s : State) (r : RingId) (x : Ring) : (s.setRing r x).pathSeq = s.pathSeq := rfl
@[simp] theorem setRing_queue (s : State) (r : RingId) (x : Ring) : (s.setRing r x).queue = s.queue := rfl
@[simp] theorem setRing_offers (s : State) (r : RingId) (x : Ring) : (s.setRing r x).offers = s.offers := rfl
@[simp] theorem setRing_tb (s : State) (r : RingId) (x : Ring) : (s.setRing r x).tb = s.tb := rfl
@[simp] theorem setRing_arrivals (s : State) (r : RingId) (x : Ring) : (s.setRing r x).arrivals = s.arrivals := rfl
@[simp] theorem setRing_overflows (s : State) (r : RingId) (x : Ring) : (s.setRing r x).overflows = s.overflows := rfl
@[simp] theorem setRing_paths (s : State) (r : RingId) (x : Ring) : (s.setRing r x).paths = s.paths := rfl
@[simp] theorem setRing_estimator (s : State) (r : RingId) (x : Ring) : (s.setRing r x).estimator = s.estimator := rfl
@[simp] theorem setRing_routes (s : State) (r : RingId) (x : Ring) : (s.setRing r x).routes = s.routes := rfl
@[simp] theorem setRing_mergers (s : State) (r : RingId) (x : Ring) : (s.setRing r x).mergers = s.mergers := rfl
@[simp] theorem setRing_cut (s : State) (r : RingId) (x : Ring) : (s.setRing r x).cut = s.cut := rfl
@[simp] theorem setRing_cu (s : State) (r : RingId) (x : Ring) : (s.setRing r x).cu = s.cu := rfl
@[simp] theorem setRing_rings (s : State) (r : RingId) (x : Ring) : (s.setRing r x).rings = s.rings.set r x r.isLt := rfl
@[simp] theorem setRing_writeList (s : State) (r : RingId) (x : Ring) : (s.setRing r x).writeList = s.writeList := rfl

/-! ### State.setCu -/

@[simp] theorem setCu_pending (s : State) (x : CuState) : (s.setCu x).pending = s.pending := rfl
@[simp] theorem setCu_choice (s : State) (x : CuState) : (s.setCu x).choice = s.choice := rfl
@[simp] theorem setCu_bus (s : State) (x : CuState) : (s.setCu x).bus = s.bus := rfl
@[simp] theorem setCu_agents (s : State) (x : CuState) : (s.setCu x).agents = s.agents := rfl
@[simp] theorem setCu_windows (s : State) (x : CuState) : (s.setCu x).windows = s.windows := rfl
@[simp] theorem setCu_ctlBase (s : State) (x : CuState) : (s.setCu x).ctlBase = s.ctlBase := rfl
@[simp] theorem setCu_mgmtTag (s : State) (x : CuState) : (s.setCu x).mgmtTag = s.mgmtTag := rfl
@[simp] theorem setCu_portWaiting (s : State) (x : CuState) : (s.setCu x).portWaiting = s.portWaiting := rfl
@[simp] theorem setCu_reads (s : State) (x : CuState) : (s.setCu x).reads = s.reads := rfl
@[simp] theorem setCu_readWait (s : State) (x : CuState) : (s.setCu x).readWait = s.readWait := rfl
@[simp] theorem setCu_readReady (s : State) (x : CuState) : (s.setCu x).readReady = s.readReady := rfl
@[simp] theorem setCu_readIssued (s : State) (x : CuState) : (s.setCu x).readIssued = s.readIssued := rfl
@[simp] theorem setCu_fairCount (s : State) (x : CuState) : (s.setCu x).fairCount = s.fairCount := rfl
@[simp] theorem setCu_nextRead (s : State) (x : CuState) : (s.setCu x).nextRead = s.nextRead := rfl
@[simp] theorem setCu_layout (s : State) (x : CuState) : (s.setCu x).layout = s.layout := rfl
@[simp] theorem setCu_steer (s : State) (x : CuState) : (s.setCu x).steer = s.steer := rfl
@[simp] theorem setCu_pathSeq (s : State) (x : CuState) : (s.setCu x).pathSeq = s.pathSeq := rfl
@[simp] theorem setCu_queue (s : State) (x : CuState) : (s.setCu x).queue = s.queue := rfl
@[simp] theorem setCu_offers (s : State) (x : CuState) : (s.setCu x).offers = s.offers := rfl
@[simp] theorem setCu_tb (s : State) (x : CuState) : (s.setCu x).tb = s.tb := rfl
@[simp] theorem setCu_arrivals (s : State) (x : CuState) : (s.setCu x).arrivals = s.arrivals := rfl
@[simp] theorem setCu_overflows (s : State) (x : CuState) : (s.setCu x).overflows = s.overflows := rfl
@[simp] theorem setCu_paths (s : State) (x : CuState) : (s.setCu x).paths = s.paths := rfl
@[simp] theorem setCu_estimator (s : State) (x : CuState) : (s.setCu x).estimator = s.estimator := rfl
@[simp] theorem setCu_routes (s : State) (x : CuState) : (s.setCu x).routes = s.routes := rfl
@[simp] theorem setCu_mergers (s : State) (x : CuState) : (s.setCu x).mergers = s.mergers := rfl
@[simp] theorem setCu_cut (s : State) (x : CuState) : (s.setCu x).cut = s.cut := rfl
@[simp] theorem setCu_cu (s : State) (x : CuState) : (s.setCu x).cu = { s.cu with state := x } := rfl
@[simp] theorem setCu_rings (s : State) (x : CuState) : (s.setCu x).rings = s.rings := rfl
@[simp] theorem setCu_writeList (s : State) (x : CuState) : (s.setCu x).writeList = s.writeList := rfl

/-! ### State.quiet -/

@[simp] theorem quiet_pending (s : State) : (s.quiet).pending = s.pending := rfl
@[simp] theorem quiet_choice (s : State) : (s.quiet).choice = s.choice := rfl
@[simp] theorem quiet_bus (s : State) : (s.quiet).bus = [] := rfl
@[simp] theorem quiet_agents (s : State) : (s.quiet).agents = s.agents := rfl
@[simp] theorem quiet_windows (s : State) : (s.quiet).windows = s.windows := rfl
@[simp] theorem quiet_ctlBase (s : State) : (s.quiet).ctlBase = s.ctlBase := rfl
@[simp] theorem quiet_mgmtTag (s : State) : (s.quiet).mgmtTag = s.mgmtTag := rfl
@[simp] theorem quiet_portWaiting (s : State) : (s.quiet).portWaiting = s.portWaiting := rfl
@[simp] theorem quiet_reads (s : State) : (s.quiet).reads = s.reads := rfl
@[simp] theorem quiet_readWait (s : State) : (s.quiet).readWait = s.readWait := rfl
@[simp] theorem quiet_readReady (s : State) : (s.quiet).readReady = s.readReady := rfl
@[simp] theorem quiet_readIssued (s : State) : (s.quiet).readIssued = s.readIssued := rfl
@[simp] theorem quiet_fairCount (s : State) : (s.quiet).fairCount = s.fairCount := rfl
@[simp] theorem quiet_nextRead (s : State) : (s.quiet).nextRead = s.nextRead := rfl
@[simp] theorem quiet_layout (s : State) : (s.quiet).layout = s.layout := rfl
@[simp] theorem quiet_steer (s : State) : (s.quiet).steer = s.steer := rfl
@[simp] theorem quiet_pathSeq (s : State) : (s.quiet).pathSeq = s.pathSeq := rfl
@[simp] theorem quiet_queue (s : State) : (s.quiet).queue = s.queue := rfl
@[simp] theorem quiet_offers (s : State) : (s.quiet).offers = s.offers := rfl
@[simp] theorem quiet_tb (s : State) : (s.quiet).tb = s.tb := rfl
@[simp] theorem quiet_arrivals (s : State) : (s.quiet).arrivals = s.arrivals := rfl
@[simp] theorem quiet_overflows (s : State) : (s.quiet).overflows = s.overflows := rfl
@[simp] theorem quiet_paths (s : State) : (s.quiet).paths = s.paths := rfl
@[simp] theorem quiet_estimator (s : State) : (s.quiet).estimator = s.estimator := rfl
@[simp] theorem quiet_routes (s : State) : (s.quiet).routes = s.routes := rfl
@[simp] theorem quiet_mergers (s : State) : (s.quiet).mergers = s.mergers := rfl
@[simp] theorem quiet_cut (s : State) : (s.quiet).cut = s.cut := rfl
@[simp] theorem quiet_cu (s : State) : (s.quiet).cu = s.cu := rfl
@[simp] theorem quiet_rings (s : State) : (s.quiet).rings = s.rings := rfl
@[simp] theorem quiet_writeList (s : State) : (s.quiet).writeList = s.writeList := rfl

/-! ### State.tookArguments -/

@[simp] theorem tookArguments_pending (s : State) : (s.tookArguments).pending = s.pending := rfl
@[simp] theorem tookArguments_choice (s : State) : (s.tookArguments).choice = s.choice := rfl
@[simp] theorem tookArguments_bus (s : State) : (s.tookArguments).bus = s.bus := rfl
@[simp] theorem tookArguments_agents (s : State) : (s.tookArguments).agents = s.agents := rfl
@[simp] theorem tookArguments_windows (s : State) : (s.tookArguments).windows = s.windows := rfl
@[simp] theorem tookArguments_ctlBase (s : State) : (s.tookArguments).ctlBase = s.ctlBase := rfl
@[simp] theorem tookArguments_mgmtTag (s : State) : (s.tookArguments).mgmtTag = s.mgmtTag := rfl
@[simp] theorem tookArguments_portWaiting (s : State) : (s.tookArguments).portWaiting = s.portWaiting := rfl
@[simp] theorem tookArguments_reads (s : State) : (s.tookArguments).reads = s.reads := rfl
@[simp] theorem tookArguments_readWait (s : State) : (s.tookArguments).readWait = s.readWait := rfl
@[simp] theorem tookArguments_readReady (s : State) : (s.tookArguments).readReady = s.readReady := rfl
@[simp] theorem tookArguments_readIssued (s : State) : (s.tookArguments).readIssued = s.readIssued.drop 1 := rfl
@[simp] theorem tookArguments_fairCount (s : State) : (s.tookArguments).fairCount = s.fairCount := rfl
@[simp] theorem tookArguments_nextRead (s : State) : (s.tookArguments).nextRead = s.nextRead := rfl
@[simp] theorem tookArguments_layout (s : State) : (s.tookArguments).layout = s.layout := rfl
@[simp] theorem tookArguments_steer (s : State) : (s.tookArguments).steer = s.steer := rfl
@[simp] theorem tookArguments_pathSeq (s : State) : (s.tookArguments).pathSeq = s.pathSeq := rfl
@[simp] theorem tookArguments_queue (s : State) : (s.tookArguments).queue = s.queue := rfl
@[simp] theorem tookArguments_offers (s : State) : (s.tookArguments).offers = s.offers := rfl
@[simp] theorem tookArguments_tb (s : State) : (s.tookArguments).tb = s.tb := rfl
@[simp] theorem tookArguments_arrivals (s : State) : (s.tookArguments).arrivals = s.arrivals := rfl
@[simp] theorem tookArguments_overflows (s : State) : (s.tookArguments).overflows = s.overflows := rfl
@[simp] theorem tookArguments_paths (s : State) : (s.tookArguments).paths = s.paths := rfl
@[simp] theorem tookArguments_estimator (s : State) : (s.tookArguments).estimator = s.estimator := rfl
@[simp] theorem tookArguments_routes (s : State) : (s.tookArguments).routes = s.routes := rfl
@[simp] theorem tookArguments_mergers (s : State) : (s.tookArguments).mergers = s.mergers := rfl
@[simp] theorem tookArguments_cut (s : State) : (s.tookArguments).cut = s.cut := rfl
@[simp] theorem tookArguments_cu (s : State) : (s.tookArguments).cu = s.cu := rfl
@[simp] theorem tookArguments_rings (s : State) : (s.tookArguments).rings = s.rings := rfl
@[simp] theorem tookArguments_writeList (s : State) : (s.tookArguments).writeList = s.writeList := rfl

/-! ### emit -/

@[simp] theorem emit_pending (s : State) (o : BusOut) : (emit o s).pending = s.pending := rfl
@[simp] theorem emit_choice (s : State) (o : BusOut) : (emit o s).choice = s.choice := rfl
@[simp] theorem emit_bus (s : State) (o : BusOut) : (emit o s).bus = s.bus ++ [o] := rfl
@[simp] theorem emit_agents (s : State) (o : BusOut) : (emit o s).agents = s.agents := rfl
@[simp] theorem emit_windows (s : State) (o : BusOut) : (emit o s).windows = s.windows := rfl
@[simp] theorem emit_ctlBase (s : State) (o : BusOut) : (emit o s).ctlBase = s.ctlBase := rfl
@[simp] theorem emit_mgmtTag (s : State) (o : BusOut) : (emit o s).mgmtTag = s.mgmtTag := rfl
@[simp] theorem emit_portWaiting (s : State) (o : BusOut) : (emit o s).portWaiting = s.portWaiting := rfl
@[simp] theorem emit_reads (s : State) (o : BusOut) : (emit o s).reads = s.reads := rfl
@[simp] theorem emit_readWait (s : State) (o : BusOut) : (emit o s).readWait = s.readWait := rfl
@[simp] theorem emit_readReady (s : State) (o : BusOut) : (emit o s).readReady = s.readReady := rfl
@[simp] theorem emit_readIssued (s : State) (o : BusOut) : (emit o s).readIssued = s.readIssued := rfl
@[simp] theorem emit_fairCount (s : State) (o : BusOut) : (emit o s).fairCount = s.fairCount := rfl
@[simp] theorem emit_nextRead (s : State) (o : BusOut) : (emit o s).nextRead = s.nextRead := rfl
@[simp] theorem emit_layout (s : State) (o : BusOut) : (emit o s).layout = s.layout := rfl
@[simp] theorem emit_steer (s : State) (o : BusOut) : (emit o s).steer = s.steer := rfl
@[simp] theorem emit_pathSeq (s : State) (o : BusOut) : (emit o s).pathSeq = s.pathSeq := rfl
@[simp] theorem emit_queue (s : State) (o : BusOut) : (emit o s).queue = s.queue := rfl
@[simp] theorem emit_offers (s : State) (o : BusOut) : (emit o s).offers = s.offers := rfl
@[simp] theorem emit_tb (s : State) (o : BusOut) : (emit o s).tb = s.tb := rfl
@[simp] theorem emit_arrivals (s : State) (o : BusOut) : (emit o s).arrivals = s.arrivals := rfl
@[simp] theorem emit_overflows (s : State) (o : BusOut) : (emit o s).overflows = s.overflows := rfl
@[simp] theorem emit_paths (s : State) (o : BusOut) : (emit o s).paths = s.paths := rfl
@[simp] theorem emit_estimator (s : State) (o : BusOut) : (emit o s).estimator = s.estimator := rfl
@[simp] theorem emit_routes (s : State) (o : BusOut) : (emit o s).routes = s.routes := rfl
@[simp] theorem emit_mergers (s : State) (o : BusOut) : (emit o s).mergers = s.mergers := rfl
@[simp] theorem emit_cut (s : State) (o : BusOut) : (emit o s).cut = s.cut := rfl
@[simp] theorem emit_cu (s : State) (o : BusOut) : (emit o s).cu = s.cu := rfl
@[simp] theorem emit_rings (s : State) (o : BusOut) : (emit o s).rings = s.rings := rfl
@[simp] theorem emit_writeList (s : State) (o : BusOut) : (emit o s).writeList = s.writeList := rfl

/-! ### presentOffer -/

@[simp] theorem presentOffer_pending (s : State) (src : OfferSource) (ws : List MemWrite) : (presentOffer src ws s).pending = s.pending := rfl
@[simp] theorem presentOffer_choice (s : State) (src : OfferSource) (ws : List MemWrite) : (presentOffer src ws s).choice = s.choice := rfl
@[simp] theorem presentOffer_bus (s : State) (src : OfferSource) (ws : List MemWrite) : (presentOffer src ws s).bus = s.bus := rfl
@[simp] theorem presentOffer_agents (s : State) (src : OfferSource) (ws : List MemWrite) : (presentOffer src ws s).agents = s.agents := rfl
@[simp] theorem presentOffer_windows (s : State) (src : OfferSource) (ws : List MemWrite) : (presentOffer src ws s).windows = s.windows := rfl
@[simp] theorem presentOffer_ctlBase (s : State) (src : OfferSource) (ws : List MemWrite) : (presentOffer src ws s).ctlBase = s.ctlBase := rfl
@[simp] theorem presentOffer_mgmtTag (s : State) (src : OfferSource) (ws : List MemWrite) : (presentOffer src ws s).mgmtTag = s.mgmtTag := rfl
@[simp] theorem presentOffer_portWaiting (s : State) (src : OfferSource) (ws : List MemWrite) : (presentOffer src ws s).portWaiting = s.portWaiting := rfl
@[simp] theorem presentOffer_reads (s : State) (src : OfferSource) (ws : List MemWrite) : (presentOffer src ws s).reads = s.reads := rfl
@[simp] theorem presentOffer_readWait (s : State) (src : OfferSource) (ws : List MemWrite) : (presentOffer src ws s).readWait = s.readWait := rfl
@[simp] theorem presentOffer_readReady (s : State) (src : OfferSource) (ws : List MemWrite) : (presentOffer src ws s).readReady = s.readReady := rfl
@[simp] theorem presentOffer_readIssued (s : State) (src : OfferSource) (ws : List MemWrite) : (presentOffer src ws s).readIssued = s.readIssued := rfl
@[simp] theorem presentOffer_fairCount (s : State) (src : OfferSource) (ws : List MemWrite) : (presentOffer src ws s).fairCount = s.fairCount := rfl
@[simp] theorem presentOffer_nextRead (s : State) (src : OfferSource) (ws : List MemWrite) : (presentOffer src ws s).nextRead = s.nextRead := rfl
@[simp] theorem presentOffer_layout (s : State) (src : OfferSource) (ws : List MemWrite) : (presentOffer src ws s).layout = s.layout := rfl
@[simp] theorem presentOffer_steer (s : State) (src : OfferSource) (ws : List MemWrite) : (presentOffer src ws s).steer = s.steer := rfl
@[simp] theorem presentOffer_pathSeq (s : State) (src : OfferSource) (ws : List MemWrite) : (presentOffer src ws s).pathSeq = s.pathSeq := rfl
@[simp] theorem presentOffer_queue (s : State) (src : OfferSource) (ws : List MemWrite) : (presentOffer src ws s).queue = s.queue := rfl
@[simp] theorem presentOffer_offers (s : State) (src : OfferSource) (ws : List MemWrite) : (presentOffer src ws s).offers = s.offers ++ [⟨src, ws⟩] := rfl
@[simp] theorem presentOffer_tb (s : State) (src : OfferSource) (ws : List MemWrite) : (presentOffer src ws s).tb = s.tb := rfl
@[simp] theorem presentOffer_arrivals (s : State) (src : OfferSource) (ws : List MemWrite) : (presentOffer src ws s).arrivals = s.arrivals := rfl
@[simp] theorem presentOffer_overflows (s : State) (src : OfferSource) (ws : List MemWrite) : (presentOffer src ws s).overflows = s.overflows := rfl
@[simp] theorem presentOffer_paths (s : State) (src : OfferSource) (ws : List MemWrite) : (presentOffer src ws s).paths = s.paths := rfl
@[simp] theorem presentOffer_estimator (s : State) (src : OfferSource) (ws : List MemWrite) : (presentOffer src ws s).estimator = s.estimator := rfl
@[simp] theorem presentOffer_routes (s : State) (src : OfferSource) (ws : List MemWrite) : (presentOffer src ws s).routes = s.routes := rfl
@[simp] theorem presentOffer_mergers (s : State) (src : OfferSource) (ws : List MemWrite) : (presentOffer src ws s).mergers = s.mergers := rfl
@[simp] theorem presentOffer_cut (s : State) (src : OfferSource) (ws : List MemWrite) : (presentOffer src ws s).cut = s.cut := rfl
@[simp] theorem presentOffer_cu (s : State) (src : OfferSource) (ws : List MemWrite) : (presentOffer src ws s).cu = s.cu := rfl
@[simp] theorem presentOffer_rings (s : State) (src : OfferSource) (ws : List MemWrite) : (presentOffer src ws s).rings = s.rings := rfl
@[simp] theorem presentOffer_writeList (s : State) (src : OfferSource) (ws : List MemWrite) : (presentOffer src ws s).writeList = s.writeList := rfl

/-! ### advancePathSeq -/

@[simp] theorem advancePathSeq_pending (s : State) (q : Path) : (advancePathSeq q s).pending = s.pending := rfl
@[simp] theorem advancePathSeq_choice (s : State) (q : Path) : (advancePathSeq q s).choice = s.choice := rfl
@[simp] theorem advancePathSeq_bus (s : State) (q : Path) : (advancePathSeq q s).bus = s.bus := rfl
@[simp] theorem advancePathSeq_agents (s : State) (q : Path) : (advancePathSeq q s).agents = s.agents := rfl
@[simp] theorem advancePathSeq_windows (s : State) (q : Path) : (advancePathSeq q s).windows = s.windows := rfl
@[simp] theorem advancePathSeq_ctlBase (s : State) (q : Path) : (advancePathSeq q s).ctlBase = s.ctlBase := rfl
@[simp] theorem advancePathSeq_mgmtTag (s : State) (q : Path) : (advancePathSeq q s).mgmtTag = s.mgmtTag := rfl
@[simp] theorem advancePathSeq_portWaiting (s : State) (q : Path) : (advancePathSeq q s).portWaiting = s.portWaiting := rfl
@[simp] theorem advancePathSeq_reads (s : State) (q : Path) : (advancePathSeq q s).reads = s.reads := rfl
@[simp] theorem advancePathSeq_readWait (s : State) (q : Path) : (advancePathSeq q s).readWait = s.readWait := rfl
@[simp] theorem advancePathSeq_readReady (s : State) (q : Path) : (advancePathSeq q s).readReady = s.readReady := rfl
@[simp] theorem advancePathSeq_readIssued (s : State) (q : Path) : (advancePathSeq q s).readIssued = s.readIssued := rfl
@[simp] theorem advancePathSeq_fairCount (s : State) (q : Path) : (advancePathSeq q s).fairCount = s.fairCount := rfl
@[simp] theorem advancePathSeq_nextRead (s : State) (q : Path) : (advancePathSeq q s).nextRead = s.nextRead := rfl
@[simp] theorem advancePathSeq_layout (s : State) (q : Path) : (advancePathSeq q s).layout = s.layout := rfl
@[simp] theorem advancePathSeq_steer (s : State) (q : Path) : (advancePathSeq q s).steer = s.steer := rfl
@[simp] theorem advancePathSeq_pathSeq (s : State) (q : Path) : (advancePathSeq q s).pathSeq = s.pathSeq.set q (s.pathSeq[q] + 1) q.isLt := rfl
@[simp] theorem advancePathSeq_queue (s : State) (q : Path) : (advancePathSeq q s).queue = s.queue := rfl
@[simp] theorem advancePathSeq_offers (s : State) (q : Path) : (advancePathSeq q s).offers = s.offers := rfl
@[simp] theorem advancePathSeq_tb (s : State) (q : Path) : (advancePathSeq q s).tb = s.tb := rfl
@[simp] theorem advancePathSeq_arrivals (s : State) (q : Path) : (advancePathSeq q s).arrivals = s.arrivals := rfl
@[simp] theorem advancePathSeq_overflows (s : State) (q : Path) : (advancePathSeq q s).overflows = s.overflows := rfl
@[simp] theorem advancePathSeq_paths (s : State) (q : Path) : (advancePathSeq q s).paths = s.paths := rfl
@[simp] theorem advancePathSeq_estimator (s : State) (q : Path) : (advancePathSeq q s).estimator = s.estimator := rfl
@[simp] theorem advancePathSeq_routes (s : State) (q : Path) : (advancePathSeq q s).routes = s.routes := rfl
@[simp] theorem advancePathSeq_mergers (s : State) (q : Path) : (advancePathSeq q s).mergers = s.mergers := rfl
@[simp] theorem advancePathSeq_cut (s : State) (q : Path) : (advancePathSeq q s).cut = s.cut := rfl
@[simp] theorem advancePathSeq_cu (s : State) (q : Path) : (advancePathSeq q s).cu = s.cu := rfl
@[simp] theorem advancePathSeq_rings (s : State) (q : Path) : (advancePathSeq q s).rings = s.rings := rfl
@[simp] theorem advancePathSeq_writeList (s : State) (q : Path) : (advancePathSeq q s).writeList = s.writeList := rfl

/-! ### State.setTb -/

@[simp] theorem setTb_pending (s : State) (x : TimeBase) : (s.setTb x).pending = s.pending := rfl
@[simp] theorem setTb_choice (s : State) (x : TimeBase) : (s.setTb x).choice = s.choice := rfl
@[simp] theorem setTb_bus (s : State) (x : TimeBase) : (s.setTb x).bus = s.bus := rfl
@[simp] theorem setTb_agents (s : State) (x : TimeBase) : (s.setTb x).agents = s.agents := rfl
@[simp] theorem setTb_windows (s : State) (x : TimeBase) : (s.setTb x).windows = s.windows := rfl
@[simp] theorem setTb_ctlBase (s : State) (x : TimeBase) : (s.setTb x).ctlBase = s.ctlBase := rfl
@[simp] theorem setTb_mgmtTag (s : State) (x : TimeBase) : (s.setTb x).mgmtTag = s.mgmtTag := rfl
@[simp] theorem setTb_portWaiting (s : State) (x : TimeBase) : (s.setTb x).portWaiting = s.portWaiting := rfl
@[simp] theorem setTb_reads (s : State) (x : TimeBase) : (s.setTb x).reads = s.reads := rfl
@[simp] theorem setTb_readWait (s : State) (x : TimeBase) : (s.setTb x).readWait = s.readWait := rfl
@[simp] theorem setTb_readReady (s : State) (x : TimeBase) : (s.setTb x).readReady = s.readReady := rfl
@[simp] theorem setTb_readIssued (s : State) (x : TimeBase) : (s.setTb x).readIssued = s.readIssued := rfl
@[simp] theorem setTb_fairCount (s : State) (x : TimeBase) : (s.setTb x).fairCount = s.fairCount := rfl
@[simp] theorem setTb_nextRead (s : State) (x : TimeBase) : (s.setTb x).nextRead = s.nextRead := rfl
@[simp] theorem setTb_layout (s : State) (x : TimeBase) : (s.setTb x).layout = s.layout := rfl
@[simp] theorem setTb_steer (s : State) (x : TimeBase) : (s.setTb x).steer = s.steer := rfl
@[simp] theorem setTb_pathSeq (s : State) (x : TimeBase) : (s.setTb x).pathSeq = s.pathSeq := rfl
@[simp] theorem setTb_queue (s : State) (x : TimeBase) : (s.setTb x).queue = s.queue := rfl
@[simp] theorem setTb_offers (s : State) (x : TimeBase) : (s.setTb x).offers = s.offers := rfl
@[simp] theorem setTb_tb (s : State) (x : TimeBase) : (s.setTb x).tb = x := rfl
@[simp] theorem setTb_arrivals (s : State) (x : TimeBase) : (s.setTb x).arrivals = s.arrivals := rfl
@[simp] theorem setTb_overflows (s : State) (x : TimeBase) : (s.setTb x).overflows = s.overflows := rfl
@[simp] theorem setTb_paths (s : State) (x : TimeBase) : (s.setTb x).paths = s.paths := rfl
@[simp] theorem setTb_estimator (s : State) (x : TimeBase) : (s.setTb x).estimator = s.estimator := rfl
@[simp] theorem setTb_routes (s : State) (x : TimeBase) : (s.setTb x).routes = s.routes := rfl
@[simp] theorem setTb_mergers (s : State) (x : TimeBase) : (s.setTb x).mergers = s.mergers := rfl
@[simp] theorem setTb_cut (s : State) (x : TimeBase) : (s.setTb x).cut = s.cut := rfl
@[simp] theorem setTb_cu (s : State) (x : TimeBase) : (s.setTb x).cu = s.cu := rfl
@[simp] theorem setTb_rings (s : State) (x : TimeBase) : (s.setTb x).rings = s.rings := rfl
@[simp] theorem setTb_writeList (s : State) (x : TimeBase) : (s.setTb x).writeList = s.writeList := rfl

/-! ### State.setCut -/

@[simp] theorem setCut_pending (s : State) (x : Filter) : (s.setCut x).pending = s.pending := rfl
@[simp] theorem setCut_choice (s : State) (x : Filter) : (s.setCut x).choice = s.choice := rfl
@[simp] theorem setCut_bus (s : State) (x : Filter) : (s.setCut x).bus = s.bus := rfl
@[simp] theorem setCut_agents (s : State) (x : Filter) : (s.setCut x).agents = s.agents := rfl
@[simp] theorem setCut_windows (s : State) (x : Filter) : (s.setCut x).windows = s.windows := rfl
@[simp] theorem setCut_ctlBase (s : State) (x : Filter) : (s.setCut x).ctlBase = s.ctlBase := rfl
@[simp] theorem setCut_mgmtTag (s : State) (x : Filter) : (s.setCut x).mgmtTag = s.mgmtTag := rfl
@[simp] theorem setCut_portWaiting (s : State) (x : Filter) : (s.setCut x).portWaiting = s.portWaiting := rfl
@[simp] theorem setCut_reads (s : State) (x : Filter) : (s.setCut x).reads = s.reads := rfl
@[simp] theorem setCut_readWait (s : State) (x : Filter) : (s.setCut x).readWait = s.readWait := rfl
@[simp] theorem setCut_readReady (s : State) (x : Filter) : (s.setCut x).readReady = s.readReady := rfl
@[simp] theorem setCut_readIssued (s : State) (x : Filter) : (s.setCut x).readIssued = s.readIssued := rfl
@[simp] theorem setCut_fairCount (s : State) (x : Filter) : (s.setCut x).fairCount = s.fairCount := rfl
@[simp] theorem setCut_nextRead (s : State) (x : Filter) : (s.setCut x).nextRead = s.nextRead := rfl
@[simp] theorem setCut_layout (s : State) (x : Filter) : (s.setCut x).layout = s.layout := rfl
@[simp] theorem setCut_steer (s : State) (x : Filter) : (s.setCut x).steer = s.steer := rfl
@[simp] theorem setCut_pathSeq (s : State) (x : Filter) : (s.setCut x).pathSeq = s.pathSeq := rfl
@[simp] theorem setCut_queue (s : State) (x : Filter) : (s.setCut x).queue = s.queue := rfl
@[simp] theorem setCut_offers (s : State) (x : Filter) : (s.setCut x).offers = s.offers := rfl
@[simp] theorem setCut_tb (s : State) (x : Filter) : (s.setCut x).tb = s.tb := rfl
@[simp] theorem setCut_arrivals (s : State) (x : Filter) : (s.setCut x).arrivals = s.arrivals := rfl
@[simp] theorem setCut_overflows (s : State) (x : Filter) : (s.setCut x).overflows = s.overflows := rfl
@[simp] theorem setCut_paths (s : State) (x : Filter) : (s.setCut x).paths = s.paths := rfl
@[simp] theorem setCut_estimator (s : State) (x : Filter) : (s.setCut x).estimator = s.estimator := rfl
@[simp] theorem setCut_routes (s : State) (x : Filter) : (s.setCut x).routes = s.routes := rfl
@[simp] theorem setCut_mergers (s : State) (x : Filter) : (s.setCut x).mergers = s.mergers := rfl
@[simp] theorem setCut_cut (s : State) (x : Filter) : (s.setCut x).cut = x := rfl
@[simp] theorem setCut_cu (s : State) (x : Filter) : (s.setCut x).cu = s.cu := rfl
@[simp] theorem setCut_rings (s : State) (x : Filter) : (s.setCut x).rings = s.rings := rfl
@[simp] theorem setCut_writeList (s : State) (x : Filter) : (s.setCut x).writeList = s.writeList := rfl

/-! ### A record read back after an update -/

theorem setPathRec_get (s : State) (p q : Path) (x : PathRecord) :
    (s.setPathRec p x).paths[q] = if p = q then x else s.paths[q] := by
  simp [Vector.getElem_set, Fin.ext_iff]

theorem setRouteRec_get (s : State) (r q : Route) (x : RouteRecord) :
    (s.setRouteRec r x).routes[q] = if r = q then x else s.routes[q] := by
  simp [Vector.getElem_set, Fin.ext_iff]

theorem setSteer_get (s : State) (r q : Route) (x : SteerRoute) :
    (s.setSteer r x).steer[q] = if r = q then x else s.steer[q] := by
  simp [Vector.getElem_set, Fin.ext_iff]

theorem setMerger_get (s : State) (r q : Route) (x : MergeRecord) :
    (s.setMerger r x).mergers[q] = if r = q then x else s.mergers[q] := by
  simp [Vector.getElem_set, Fin.ext_iff]

theorem setArrivals_get (s : State) (p q : Path) (x : List PendingArrival) :
    (s.setArrivals p x).arrivals[q] = if p = q then x else s.arrivals[q] := by
  simp [Vector.getElem_set, Fin.ext_iff]

theorem setWindowEntry_get (s : State) (i j : Fin 8) (x : WindowEntry) :
    (s.setWindowEntry i x).windows[j] = if i = j then x else s.windows[j] := by
  simp [Vector.getElem_set, Fin.ext_iff]

theorem setRing_get (s : State) (r q : RingId) (x : Ring) :
    (s.setRing r x).rings[q] = if r = q then x else s.rings[q] := by
  simp [Vector.getElem_set, Fin.ext_iff]

/-! ### The requests that wait at the port -/

@[simp] theorem setWaiting_pending (s : State) (qs : List PortRequest) : (s.setWaiting qs).pending = s.pending := rfl
@[simp] theorem setWaiting_choice (s : State) (qs : List PortRequest) : (s.setWaiting qs).choice = s.choice := rfl
@[simp] theorem setWaiting_bus (s : State) (qs : List PortRequest) : (s.setWaiting qs).bus = s.bus := rfl
@[simp] theorem setWaiting_agents (s : State) (qs : List PortRequest) : (s.setWaiting qs).agents = s.agents := rfl
@[simp] theorem setWaiting_windows (s : State) (qs : List PortRequest) : (s.setWaiting qs).windows = s.windows := rfl
@[simp] theorem setWaiting_ctlBase (s : State) (qs : List PortRequest) : (s.setWaiting qs).ctlBase = s.ctlBase := rfl
@[simp] theorem setWaiting_mgmtTag (s : State) (qs : List PortRequest) : (s.setWaiting qs).mgmtTag = s.mgmtTag := rfl
@[simp] theorem setWaiting_portWaiting (s : State) (qs : List PortRequest) : (s.setWaiting qs).portWaiting = qs := rfl
@[simp] theorem setWaiting_reads (s : State) (qs : List PortRequest) : (s.setWaiting qs).reads = s.reads := rfl
@[simp] theorem setWaiting_readWait (s : State) (qs : List PortRequest) : (s.setWaiting qs).readWait = s.readWait := rfl
@[simp] theorem setWaiting_readReady (s : State) (qs : List PortRequest) : (s.setWaiting qs).readReady = s.readReady := rfl
@[simp] theorem setWaiting_readIssued (s : State) (qs : List PortRequest) : (s.setWaiting qs).readIssued = s.readIssued := rfl
@[simp] theorem setWaiting_fairCount (s : State) (qs : List PortRequest) : (s.setWaiting qs).fairCount = s.fairCount := rfl
@[simp] theorem setWaiting_nextRead (s : State) (qs : List PortRequest) : (s.setWaiting qs).nextRead = s.nextRead := rfl
@[simp] theorem setWaiting_layout (s : State) (qs : List PortRequest) : (s.setWaiting qs).layout = s.layout := rfl
@[simp] theorem setWaiting_steer (s : State) (qs : List PortRequest) : (s.setWaiting qs).steer = s.steer := rfl
@[simp] theorem setWaiting_pathSeq (s : State) (qs : List PortRequest) : (s.setWaiting qs).pathSeq = s.pathSeq := rfl
@[simp] theorem setWaiting_queue (s : State) (qs : List PortRequest) : (s.setWaiting qs).queue = s.queue := rfl
@[simp] theorem setWaiting_offers (s : State) (qs : List PortRequest) : (s.setWaiting qs).offers = s.offers := rfl
@[simp] theorem setWaiting_tb (s : State) (qs : List PortRequest) : (s.setWaiting qs).tb = s.tb := rfl
@[simp] theorem setWaiting_arrivals (s : State) (qs : List PortRequest) : (s.setWaiting qs).arrivals = s.arrivals := rfl
@[simp] theorem setWaiting_overflows (s : State) (qs : List PortRequest) : (s.setWaiting qs).overflows = s.overflows := rfl
@[simp] theorem setWaiting_paths (s : State) (qs : List PortRequest) : (s.setWaiting qs).paths = s.paths := rfl
@[simp] theorem setWaiting_estimator (s : State) (qs : List PortRequest) : (s.setWaiting qs).estimator = s.estimator := rfl
@[simp] theorem setWaiting_routes (s : State) (qs : List PortRequest) : (s.setWaiting qs).routes = s.routes := rfl
@[simp] theorem setWaiting_mergers (s : State) (qs : List PortRequest) : (s.setWaiting qs).mergers = s.mergers := rfl
@[simp] theorem setWaiting_cut (s : State) (qs : List PortRequest) : (s.setWaiting qs).cut = s.cut := rfl
@[simp] theorem setWaiting_cu (s : State) (qs : List PortRequest) : (s.setWaiting qs).cu = s.cu := rfl
@[simp] theorem setWaiting_rings (s : State) (qs : List PortRequest) : (s.setWaiting qs).rings = s.rings := rfl
@[simp] theorem setWaiting_writeList (s : State) (qs : List PortRequest) : (s.setWaiting qs).writeList = s.writeList := rfl

end Sys2Proof.Machine
end

