-- ==== Sys2Proof/Laws/Frames.lean ====
section
/-! SUPPORT. What each shared operation can change: a relation for each group of fields, and for each operation the lemma
that it changes nothing outside its group. A caller reads any other field off with `congrArg`. -/

namespace Sys2Proof.Machine

/-- From `s` to `t` only these change: the reports: the rings and the write list. -/
def OnlyReports (s t : State) : Prop :=
  t = { s with rings := t.rings, writeList := t.writeList }

theorem OnlyReports.refl (s : State) : OnlyReports s s := rfl

theorem OnlyReports.pending {s t : State} (h : OnlyReports s t) : t.pending = s.pending := (congrArg State.pending (show t = _ from h) :)
theorem OnlyReports.choice {s t : State} (h : OnlyReports s t) : t.choice = s.choice := (congrArg State.choice (show t = _ from h) :)
theorem OnlyReports.bus {s t : State} (h : OnlyReports s t) : t.bus = s.bus := (congrArg State.bus (show t = _ from h) :)
theorem OnlyReports.agents {s t : State} (h : OnlyReports s t) : t.agents = s.agents := (congrArg State.agents (show t = _ from h) :)
theorem OnlyReports.windows {s t : State} (h : OnlyReports s t) : t.windows = s.windows := (congrArg State.windows (show t = _ from h) :)
theorem OnlyReports.ctlBase {s t : State} (h : OnlyReports s t) : t.ctlBase = s.ctlBase := (congrArg State.ctlBase (show t = _ from h) :)
theorem OnlyReports.mgmtTag {s t : State} (h : OnlyReports s t) : t.mgmtTag = s.mgmtTag := (congrArg State.mgmtTag (show t = _ from h) :)
theorem OnlyReports.portWaiting {s t : State} (h : OnlyReports s t) : t.portWaiting = s.portWaiting := (congrArg State.portWaiting (show t = _ from h) :)
theorem OnlyReports.reads {s t : State} (h : OnlyReports s t) : t.reads = s.reads := (congrArg State.reads (show t = _ from h) :)
theorem OnlyReports.readWait {s t : State} (h : OnlyReports s t) : t.readWait = s.readWait := (congrArg State.readWait (show t = _ from h) :)
theorem OnlyReports.readReady {s t : State} (h : OnlyReports s t) : t.readReady = s.readReady := (congrArg State.readReady (show t = _ from h) :)
theorem OnlyReports.readIssued {s t : State} (h : OnlyReports s t) : t.readIssued = s.readIssued := (congrArg State.readIssued (show t = _ from h) :)
theorem OnlyReports.fairCount {s t : State} (h : OnlyReports s t) : t.fairCount = s.fairCount := (congrArg State.fairCount (show t = _ from h) :)
theorem OnlyReports.nextRead {s t : State} (h : OnlyReports s t) : t.nextRead = s.nextRead := (congrArg State.nextRead (show t = _ from h) :)
theorem OnlyReports.layout {s t : State} (h : OnlyReports s t) : t.layout = s.layout := (congrArg State.layout (show t = _ from h) :)
theorem OnlyReports.steer {s t : State} (h : OnlyReports s t) : t.steer = s.steer := (congrArg State.steer (show t = _ from h) :)
theorem OnlyReports.pathSeq {s t : State} (h : OnlyReports s t) : t.pathSeq = s.pathSeq := (congrArg State.pathSeq (show t = _ from h) :)
theorem OnlyReports.queue {s t : State} (h : OnlyReports s t) : t.queue = s.queue := (congrArg State.queue (show t = _ from h) :)
theorem OnlyReports.offers {s t : State} (h : OnlyReports s t) : t.offers = s.offers := (congrArg State.offers (show t = _ from h) :)
theorem OnlyReports.tb {s t : State} (h : OnlyReports s t) : t.tb = s.tb := (congrArg State.tb (show t = _ from h) :)
theorem OnlyReports.arrivals {s t : State} (h : OnlyReports s t) : t.arrivals = s.arrivals := (congrArg State.arrivals (show t = _ from h) :)
theorem OnlyReports.overflows {s t : State} (h : OnlyReports s t) : t.overflows = s.overflows := (congrArg State.overflows (show t = _ from h) :)
theorem OnlyReports.paths {s t : State} (h : OnlyReports s t) : t.paths = s.paths := (congrArg State.paths (show t = _ from h) :)
theorem OnlyReports.estimator {s t : State} (h : OnlyReports s t) : t.estimator = s.estimator := (congrArg State.estimator (show t = _ from h) :)
theorem OnlyReports.routes {s t : State} (h : OnlyReports s t) : t.routes = s.routes := (congrArg State.routes (show t = _ from h) :)
theorem OnlyReports.mergers {s t : State} (h : OnlyReports s t) : t.mergers = s.mergers := (congrArg State.mergers (show t = _ from h) :)
theorem OnlyReports.cut {s t : State} (h : OnlyReports s t) : t.cut = s.cut := (congrArg State.cut (show t = _ from h) :)
theorem OnlyReports.cu {s t : State} (h : OnlyReports s t) : t.cu = s.cu := (congrArg State.cu (show t = _ from h) :)

theorem OnlyReports.trans {s t u : State} (h : OnlyReports s t) (k : OnlyReports t u) : OnlyReports s u :=
  Eq.trans k (congrArg (fun x : State => { x with rings := u.rings, writeList := u.writeList }) h)

theorem OnlyReports.foldl {α : Type} {f : State → α → State} (h : ∀ s a, OnlyReports s (f s a)) (xs : List α) (s : State) :
    OnlyReports s (xs.foldl f s) := by
  induction xs generalizing s with
  | nil => exact .refl s
  | cons a as ih => exact (h s a).trans (ih (f s a))

/-- From `s` to `t` only these change: the route records and the reports. -/
def OnlySelection (s t : State) : Prop :=
  t = { s with routes := t.routes, rings := t.rings, writeList := t.writeList }

theorem OnlySelection.refl (s : State) : OnlySelection s s := rfl

theorem OnlySelection.pending {s t : State} (h : OnlySelection s t) : t.pending = s.pending := (congrArg State.pending (show t = _ from h) :)
theorem OnlySelection.choice {s t : State} (h : OnlySelection s t) : t.choice = s.choice := (congrArg State.choice (show t = _ from h) :)
theorem OnlySelection.bus {s t : State} (h : OnlySelection s t) : t.bus = s.bus := (congrArg State.bus (show t = _ from h) :)
theorem OnlySelection.agents {s t : State} (h : OnlySelection s t) : t.agents = s.agents := (congrArg State.agents (show t = _ from h) :)
theorem OnlySelection.windows {s t : State} (h : OnlySelection s t) : t.windows = s.windows := (congrArg State.windows (show t = _ from h) :)
theorem OnlySelection.ctlBase {s t : State} (h : OnlySelection s t) : t.ctlBase = s.ctlBase := (congrArg State.ctlBase (show t = _ from h) :)
theorem OnlySelection.mgmtTag {s t : State} (h : OnlySelection s t) : t.mgmtTag = s.mgmtTag := (congrArg State.mgmtTag (show t = _ from h) :)
theorem OnlySelection.portWaiting {s t : State} (h : OnlySelection s t) : t.portWaiting = s.portWaiting := (congrArg State.portWaiting (show t = _ from h) :)
theorem OnlySelection.reads {s t : State} (h : OnlySelection s t) : t.reads = s.reads := (congrArg State.reads (show t = _ from h) :)
theorem OnlySelection.readWait {s t : State} (h : OnlySelection s t) : t.readWait = s.readWait := (congrArg State.readWait (show t = _ from h) :)
theorem OnlySelection.readReady {s t : State} (h : OnlySelection s t) : t.readReady = s.readReady := (congrArg State.readReady (show t = _ from h) :)
theorem OnlySelection.readIssued {s t : State} (h : OnlySelection s t) : t.readIssued = s.readIssued := (congrArg State.readIssued (show t = _ from h) :)
theorem OnlySelection.fairCount {s t : State} (h : OnlySelection s t) : t.fairCount = s.fairCount := (congrArg State.fairCount (show t = _ from h) :)
theorem OnlySelection.nextRead {s t : State} (h : OnlySelection s t) : t.nextRead = s.nextRead := (congrArg State.nextRead (show t = _ from h) :)
theorem OnlySelection.layout {s t : State} (h : OnlySelection s t) : t.layout = s.layout := (congrArg State.layout (show t = _ from h) :)
theorem OnlySelection.steer {s t : State} (h : OnlySelection s t) : t.steer = s.steer := (congrArg State.steer (show t = _ from h) :)
theorem OnlySelection.pathSeq {s t : State} (h : OnlySelection s t) : t.pathSeq = s.pathSeq := (congrArg State.pathSeq (show t = _ from h) :)
theorem OnlySelection.queue {s t : State} (h : OnlySelection s t) : t.queue = s.queue := (congrArg State.queue (show t = _ from h) :)
theorem OnlySelection.offers {s t : State} (h : OnlySelection s t) : t.offers = s.offers := (congrArg State.offers (show t = _ from h) :)
theorem OnlySelection.tb {s t : State} (h : OnlySelection s t) : t.tb = s.tb := (congrArg State.tb (show t = _ from h) :)
theorem OnlySelection.arrivals {s t : State} (h : OnlySelection s t) : t.arrivals = s.arrivals := (congrArg State.arrivals (show t = _ from h) :)
theorem OnlySelection.overflows {s t : State} (h : OnlySelection s t) : t.overflows = s.overflows := (congrArg State.overflows (show t = _ from h) :)
theorem OnlySelection.paths {s t : State} (h : OnlySelection s t) : t.paths = s.paths := (congrArg State.paths (show t = _ from h) :)
theorem OnlySelection.estimator {s t : State} (h : OnlySelection s t) : t.estimator = s.estimator := (congrArg State.estimator (show t = _ from h) :)
theorem OnlySelection.mergers {s t : State} (h : OnlySelection s t) : t.mergers = s.mergers := (congrArg State.mergers (show t = _ from h) :)
theorem OnlySelection.cut {s t : State} (h : OnlySelection s t) : t.cut = s.cut := (congrArg State.cut (show t = _ from h) :)
theorem OnlySelection.cu {s t : State} (h : OnlySelection s t) : t.cu = s.cu := (congrArg State.cu (show t = _ from h) :)

theorem OnlySelection.trans {s t u : State} (h : OnlySelection s t) (k : OnlySelection t u) : OnlySelection s u :=
  Eq.trans k (congrArg (fun x : State => { x with routes := u.routes, rings := u.rings, writeList := u.writeList }) h)

theorem OnlySelection.foldl {α : Type} {f : State → α → State} (h : ∀ s a, OnlySelection s (f s a)) (xs : List α) (s : State) :
    OnlySelection s (xs.foldl f s) := by
  induction xs generalizing s with
  | nil => exact .refl s
  | cons a as ih => exact (h s a).trans (ih (f s a))

/-- From `s` to `t` only these change: the path records, the route records and the reports. -/
def OnlyHealth (s t : State) : Prop :=
  t = { s with paths := t.paths, routes := t.routes, rings := t.rings, writeList := t.writeList }

theorem OnlyHealth.refl (s : State) : OnlyHealth s s := rfl

theorem OnlyHealth.pending {s t : State} (h : OnlyHealth s t) : t.pending = s.pending := (congrArg State.pending (show t = _ from h) :)
theorem OnlyHealth.choice {s t : State} (h : OnlyHealth s t) : t.choice = s.choice := (congrArg State.choice (show t = _ from h) :)
theorem OnlyHealth.bus {s t : State} (h : OnlyHealth s t) : t.bus = s.bus := (congrArg State.bus (show t = _ from h) :)
theorem OnlyHealth.agents {s t : State} (h : OnlyHealth s t) : t.agents = s.agents := (congrArg State.agents (show t = _ from h) :)
theorem OnlyHealth.windows {s t : State} (h : OnlyHealth s t) : t.windows = s.windows := (congrArg State.windows (show t = _ from h) :)
theorem OnlyHealth.ctlBase {s t : State} (h : OnlyHealth s t) : t.ctlBase = s.ctlBase := (congrArg State.ctlBase (show t = _ from h) :)
theorem OnlyHealth.mgmtTag {s t : State} (h : OnlyHealth s t) : t.mgmtTag = s.mgmtTag := (congrArg State.mgmtTag (show t = _ from h) :)
theorem OnlyHealth.portWaiting {s t : State} (h : OnlyHealth s t) : t.portWaiting = s.portWaiting := (congrArg State.portWaiting (show t = _ from h) :)
theorem OnlyHealth.reads {s t : State} (h : OnlyHealth s t) : t.reads = s.reads := (congrArg State.reads (show t = _ from h) :)
theorem OnlyHealth.readWait {s t : State} (h : OnlyHealth s t) : t.readWait = s.readWait := (congrArg State.readWait (show t = _ from h) :)
theorem OnlyHealth.readReady {s t : State} (h : OnlyHealth s t) : t.readReady = s.readReady := (congrArg State.readReady (show t = _ from h) :)
theorem OnlyHealth.readIssued {s t : State} (h : OnlyHealth s t) : t.readIssued = s.readIssued := (congrArg State.readIssued (show t = _ from h) :)
theorem OnlyHealth.fairCount {s t : State} (h : OnlyHealth s t) : t.fairCount = s.fairCount := (congrArg State.fairCount (show t = _ from h) :)
theorem OnlyHealth.nextRead {s t : State} (h : OnlyHealth s t) : t.nextRead = s.nextRead := (congrArg State.nextRead (show t = _ from h) :)
theorem OnlyHealth.layout {s t : State} (h : OnlyHealth s t) : t.layout = s.layout := (congrArg State.layout (show t = _ from h) :)
theorem OnlyHealth.steer {s t : State} (h : OnlyHealth s t) : t.steer = s.steer := (congrArg State.steer (show t = _ from h) :)
theorem OnlyHealth.pathSeq {s t : State} (h : OnlyHealth s t) : t.pathSeq = s.pathSeq := (congrArg State.pathSeq (show t = _ from h) :)
theorem OnlyHealth.queue {s t : State} (h : OnlyHealth s t) : t.queue = s.queue := (congrArg State.queue (show t = _ from h) :)
theorem OnlyHealth.offers {s t : State} (h : OnlyHealth s t) : t.offers = s.offers := (congrArg State.offers (show t = _ from h) :)
theorem OnlyHealth.tb {s t : State} (h : OnlyHealth s t) : t.tb = s.tb := (congrArg State.tb (show t = _ from h) :)
theorem OnlyHealth.arrivals {s t : State} (h : OnlyHealth s t) : t.arrivals = s.arrivals := (congrArg State.arrivals (show t = _ from h) :)
theorem OnlyHealth.overflows {s t : State} (h : OnlyHealth s t) : t.overflows = s.overflows := (congrArg State.overflows (show t = _ from h) :)
theorem OnlyHealth.estimator {s t : State} (h : OnlyHealth s t) : t.estimator = s.estimator := (congrArg State.estimator (show t = _ from h) :)
theorem OnlyHealth.mergers {s t : State} (h : OnlyHealth s t) : t.mergers = s.mergers := (congrArg State.mergers (show t = _ from h) :)
theorem OnlyHealth.cut {s t : State} (h : OnlyHealth s t) : t.cut = s.cut := (congrArg State.cut (show t = _ from h) :)
theorem OnlyHealth.cu {s t : State} (h : OnlyHealth s t) : t.cu = s.cu := (congrArg State.cu (show t = _ from h) :)

theorem OnlyHealth.trans {s t u : State} (h : OnlyHealth s t) (k : OnlyHealth t u) : OnlyHealth s u :=
  Eq.trans k (congrArg (fun x : State => { x with paths := u.paths, routes := u.routes, rings := u.rings, writeList := u.writeList }) h)

theorem OnlyHealth.foldl {α : Type} {f : State → α → State} (h : ∀ s a, OnlyHealth s (f s a)) (xs : List α) (s : State) :
    OnlyHealth s (xs.foldl f s) := by
  induction xs generalizing s with
  | nil => exact .refl s
  | cons a as ih => exact (h s a).trans (ih (f s a))

/-- From `s` to `t` only these change: what an arrival reaches: path records, merger records, route records, reports. -/
def OnlyDelivery (s t : State) : Prop :=
  t = { s with paths := t.paths, routes := t.routes, mergers := t.mergers, rings := t.rings, writeList := t.writeList }

theorem OnlyDelivery.refl (s : State) : OnlyDelivery s s := rfl

theorem OnlyDelivery.pending {s t : State} (h : OnlyDelivery s t) : t.pending = s.pending := (congrArg State.pending (show t = _ from h) :)
theorem OnlyDelivery.choice {s t : State} (h : OnlyDelivery s t) : t.choice = s.choice := (congrArg State.choice (show t = _ from h) :)
theorem OnlyDelivery.bus {s t : State} (h : OnlyDelivery s t) : t.bus = s.bus := (congrArg State.bus (show t = _ from h) :)
theorem OnlyDelivery.agents {s t : State} (h : OnlyDelivery s t) : t.agents = s.agents := (congrArg State.agents (show t = _ from h) :)
theorem OnlyDelivery.windows {s t : State} (h : OnlyDelivery s t) : t.windows = s.windows := (congrArg State.windows (show t = _ from h) :)
theorem OnlyDelivery.ctlBase {s t : State} (h : OnlyDelivery s t) : t.ctlBase = s.ctlBase := (congrArg State.ctlBase (show t = _ from h) :)
theorem OnlyDelivery.mgmtTag {s t : State} (h : OnlyDelivery s t) : t.mgmtTag = s.mgmtTag := (congrArg State.mgmtTag (show t = _ from h) :)
theorem OnlyDelivery.portWaiting {s t : State} (h : OnlyDelivery s t) : t.portWaiting = s.portWaiting := (congrArg State.portWaiting (show t = _ from h) :)
theorem OnlyDelivery.reads {s t : State} (h : OnlyDelivery s t) : t.reads = s.reads := (congrArg State.reads (show t = _ from h) :)
theorem OnlyDelivery.readWait {s t : State} (h : OnlyDelivery s t) : t.readWait = s.readWait := (congrArg State.readWait (show t = _ from h) :)
theorem OnlyDelivery.readReady {s t : State} (h : OnlyDelivery s t) : t.readReady = s.readReady := (congrArg State.readReady (show t = _ from h) :)
theorem OnlyDelivery.readIssued {s t : State} (h : OnlyDelivery s t) : t.readIssued = s.readIssued := (congrArg State.readIssued (show t = _ from h) :)
theorem OnlyDelivery.fairCount {s t : State} (h : OnlyDelivery s t) : t.fairCount = s.fairCount := (congrArg State.fairCount (show t = _ from h) :)
theorem OnlyDelivery.nextRead {s t : State} (h : OnlyDelivery s t) : t.nextRead = s.nextRead := (congrArg State.nextRead (show t = _ from h) :)
theorem OnlyDelivery.layout {s t : State} (h : OnlyDelivery s t) : t.layout = s.layout := (congrArg State.layout (show t = _ from h) :)
theorem OnlyDelivery.steer {s t : State} (h : OnlyDelivery s t) : t.steer = s.steer := (congrArg State.steer (show t = _ from h) :)
theorem OnlyDelivery.pathSeq {s t : State} (h : OnlyDelivery s t) : t.pathSeq = s.pathSeq := (congrArg State.pathSeq (show t = _ from h) :)
theorem OnlyDelivery.queue {s t : State} (h : OnlyDelivery s t) : t.queue = s.queue := (congrArg State.queue (show t = _ from h) :)
theorem OnlyDelivery.offers {s t : State} (h : OnlyDelivery s t) : t.offers = s.offers := (congrArg State.offers (show t = _ from h) :)
theorem OnlyDelivery.tb {s t : State} (h : OnlyDelivery s t) : t.tb = s.tb := (congrArg State.tb (show t = _ from h) :)
theorem OnlyDelivery.arrivals {s t : State} (h : OnlyDelivery s t) : t.arrivals = s.arrivals := (congrArg State.arrivals (show t = _ from h) :)
theorem OnlyDelivery.overflows {s t : State} (h : OnlyDelivery s t) : t.overflows = s.overflows := (congrArg State.overflows (show t = _ from h) :)
theorem OnlyDelivery.estimator {s t : State} (h : OnlyDelivery s t) : t.estimator = s.estimator := (congrArg State.estimator (show t = _ from h) :)
theorem OnlyDelivery.cut {s t : State} (h : OnlyDelivery s t) : t.cut = s.cut := (congrArg State.cut (show t = _ from h) :)
theorem OnlyDelivery.cu {s t : State} (h : OnlyDelivery s t) : t.cu = s.cu := (congrArg State.cu (show t = _ from h) :)

theorem OnlyDelivery.trans {s t u : State} (h : OnlyDelivery s t) (k : OnlyDelivery t u) : OnlyDelivery s u :=
  Eq.trans k (congrArg (fun x : State => { x with paths := u.paths, routes := u.routes, mergers := u.mergers, rings := u.rings, writeList := u.writeList }) h)

theorem OnlyDelivery.foldl {α : Type} {f : State → α → State} (h : ∀ s a, OnlyDelivery s (f s a)) (xs : List α) (s : State) :
    OnlyDelivery s (xs.foldl f s) := by
  induction xs generalizing s with
  | nil => exact .refl s
  | cons a as ih => exact (h s a).trans (ih (f s a))

/-- From `s` to `t` only these change: what an update event reaches. -/
def OnlyUpdate (s t : State) : Prop :=
  t = { s with windows := t.windows, steer := t.steer, paths := t.paths, routes := t.routes, mergers := t.mergers, rings := t.rings, writeList := t.writeList }

theorem OnlyUpdate.refl (s : State) : OnlyUpdate s s := rfl

theorem OnlyUpdate.pending {s t : State} (h : OnlyUpdate s t) : t.pending = s.pending := (congrArg State.pending (show t = _ from h) :)
theorem OnlyUpdate.choice {s t : State} (h : OnlyUpdate s t) : t.choice = s.choice := (congrArg State.choice (show t = _ from h) :)
theorem OnlyUpdate.bus {s t : State} (h : OnlyUpdate s t) : t.bus = s.bus := (congrArg State.bus (show t = _ from h) :)
theorem OnlyUpdate.agents {s t : State} (h : OnlyUpdate s t) : t.agents = s.agents := (congrArg State.agents (show t = _ from h) :)
theorem OnlyUpdate.ctlBase {s t : State} (h : OnlyUpdate s t) : t.ctlBase = s.ctlBase := (congrArg State.ctlBase (show t = _ from h) :)
theorem OnlyUpdate.mgmtTag {s t : State} (h : OnlyUpdate s t) : t.mgmtTag = s.mgmtTag := (congrArg State.mgmtTag (show t = _ from h) :)
theorem OnlyUpdate.portWaiting {s t : State} (h : OnlyUpdate s t) : t.portWaiting = s.portWaiting := (congrArg State.portWaiting (show t = _ from h) :)
theorem OnlyUpdate.reads {s t : State} (h : OnlyUpdate s t) : t.reads = s.reads := (congrArg State.reads (show t = _ from h) :)
theorem OnlyUpdate.readWait {s t : State} (h : OnlyUpdate s t) : t.readWait = s.readWait := (congrArg State.readWait (show t = _ from h) :)
theorem OnlyUpdate.readReady {s t : State} (h : OnlyUpdate s t) : t.readReady = s.readReady := (congrArg State.readReady (show t = _ from h) :)
theorem OnlyUpdate.readIssued {s t : State} (h : OnlyUpdate s t) : t.readIssued = s.readIssued := (congrArg State.readIssued (show t = _ from h) :)
theorem OnlyUpdate.fairCount {s t : State} (h : OnlyUpdate s t) : t.fairCount = s.fairCount := (congrArg State.fairCount (show t = _ from h) :)
theorem OnlyUpdate.nextRead {s t : State} (h : OnlyUpdate s t) : t.nextRead = s.nextRead := (congrArg State.nextRead (show t = _ from h) :)
theorem OnlyUpdate.layout {s t : State} (h : OnlyUpdate s t) : t.layout = s.layout := (congrArg State.layout (show t = _ from h) :)
theorem OnlyUpdate.pathSeq {s t : State} (h : OnlyUpdate s t) : t.pathSeq = s.pathSeq := (congrArg State.pathSeq (show t = _ from h) :)
theorem OnlyUpdate.queue {s t : State} (h : OnlyUpdate s t) : t.queue = s.queue := (congrArg State.queue (show t = _ from h) :)
theorem OnlyUpdate.offers {s t : State} (h : OnlyUpdate s t) : t.offers = s.offers := (congrArg State.offers (show t = _ from h) :)
theorem OnlyUpdate.tb {s t : State} (h : OnlyUpdate s t) : t.tb = s.tb := (congrArg State.tb (show t = _ from h) :)
theorem OnlyUpdate.arrivals {s t : State} (h : OnlyUpdate s t) : t.arrivals = s.arrivals := (congrArg State.arrivals (show t = _ from h) :)
theorem OnlyUpdate.overflows {s t : State} (h : OnlyUpdate s t) : t.overflows = s.overflows := (congrArg State.overflows (show t = _ from h) :)
theorem OnlyUpdate.estimator {s t : State} (h : OnlyUpdate s t) : t.estimator = s.estimator := (congrArg State.estimator (show t = _ from h) :)
theorem OnlyUpdate.cut {s t : State} (h : OnlyUpdate s t) : t.cut = s.cut := (congrArg State.cut (show t = _ from h) :)
theorem OnlyUpdate.cu {s t : State} (h : OnlyUpdate s t) : t.cu = s.cu := (congrArg State.cu (show t = _ from h) :)

theorem OnlyUpdate.trans {s t u : State} (h : OnlyUpdate s t) (k : OnlyUpdate t u) : OnlyUpdate s u :=
  Eq.trans k (congrArg (fun x : State => { x with windows := u.windows, steer := u.steer, paths := u.paths, routes := u.routes, mergers := u.mergers, rings := u.rings, writeList := u.writeList }) h)

theorem OnlyUpdate.foldl {α : Type} {f : State → α → State} (h : ∀ s a, OnlyUpdate s (f s a)) (xs : List α) (s : State) :
    OnlyUpdate s (xs.foldl f s) := by
  induction xs generalizing s with
  | nil => exact .refl s
  | cons a as ih => exact (h s a).trans (ih (f s a))

/-- From `s` to `t` only these change: what an acceptance reaches. -/
def OnlyAccepting (s t : State) : Prop :=
  t = { s with choice := t.choice, bus := t.bus, reads := t.reads, readWait := t.readWait, readReady := t.readReady, nextRead := t.nextRead, steer := t.steer, pathSeq := t.pathSeq, offers := t.offers, arrivals := t.arrivals, overflows := t.overflows, paths := t.paths, routes := t.routes, mergers := t.mergers, rings := t.rings, writeList := t.writeList }

theorem OnlyAccepting.refl (s : State) : OnlyAccepting s s := rfl

theorem OnlyAccepting.pending {s t : State} (h : OnlyAccepting s t) : t.pending = s.pending := (congrArg State.pending (show t = _ from h) :)
theorem OnlyAccepting.agents {s t : State} (h : OnlyAccepting s t) : t.agents = s.agents := (congrArg State.agents (show t = _ from h) :)
theorem OnlyAccepting.windows {s t : State} (h : OnlyAccepting s t) : t.windows = s.windows := (congrArg State.windows (show t = _ from h) :)
theorem OnlyAccepting.ctlBase {s t : State} (h : OnlyAccepting s t) : t.ctlBase = s.ctlBase := (congrArg State.ctlBase (show t = _ from h) :)
theorem OnlyAccepting.mgmtTag {s t : State} (h : OnlyAccepting s t) : t.mgmtTag = s.mgmtTag := (congrArg State.mgmtTag (show t = _ from h) :)
theorem OnlyAccepting.portWaiting {s t : State} (h : OnlyAccepting s t) : t.portWaiting = s.portWaiting := (congrArg State.portWaiting (show t = _ from h) :)
theorem OnlyAccepting.readIssued {s t : State} (h : OnlyAccepting s t) : t.readIssued = s.readIssued := (congrArg State.readIssued (show t = _ from h) :)
theorem OnlyAccepting.fairCount {s t : State} (h : OnlyAccepting s t) : t.fairCount = s.fairCount := (congrArg State.fairCount (show t = _ from h) :)
theorem OnlyAccepting.layout {s t : State} (h : OnlyAccepting s t) : t.layout = s.layout := (congrArg State.layout (show t = _ from h) :)
theorem OnlyAccepting.queue {s t : State} (h : OnlyAccepting s t) : t.queue = s.queue := (congrArg State.queue (show t = _ from h) :)
theorem OnlyAccepting.tb {s t : State} (h : OnlyAccepting s t) : t.tb = s.tb := (congrArg State.tb (show t = _ from h) :)
theorem OnlyAccepting.estimator {s t : State} (h : OnlyAccepting s t) : t.estimator = s.estimator := (congrArg State.estimator (show t = _ from h) :)
theorem OnlyAccepting.cut {s t : State} (h : OnlyAccepting s t) : t.cut = s.cut := (congrArg State.cut (show t = _ from h) :)
theorem OnlyAccepting.cu {s t : State} (h : OnlyAccepting s t) : t.cu = s.cu := (congrArg State.cu (show t = _ from h) :)

theorem OnlyAccepting.trans {s t u : State} (h : OnlyAccepting s t) (k : OnlyAccepting t u) : OnlyAccepting s u :=
  Eq.trans k (congrArg (fun x : State => { x with choice := u.choice, bus := u.bus, reads := u.reads, readWait := u.readWait, readReady := u.readReady, nextRead := u.nextRead, steer := u.steer, pathSeq := u.pathSeq, offers := u.offers, arrivals := u.arrivals, overflows := u.overflows, paths := u.paths, routes := u.routes, mergers := u.mergers, rings := u.rings, writeList := u.writeList }) h)

theorem OnlyAccepting.foldl {α : Type} {f : State → α → State} (h : ∀ s a, OnlyAccepting s (f s a)) (xs : List α) (s : State) :
    OnlyAccepting s (xs.foldl f s) := by
  induction xs generalizing s with
  | nil => exact .refl s
  | cons a as ih => exact (h s a).trans (ih (f s a))

theorem OnlyReports.toSelection {s t : State} (h : OnlyReports s t) : OnlySelection s t := by
  unfold OnlyReports at h
  unfold OnlySelection
  rw [h]

theorem OnlySelection.toHealth {s t : State} (h : OnlySelection s t) : OnlyHealth s t := by
  unfold OnlySelection at h
  unfold OnlyHealth
  rw [h]

theorem OnlyHealth.toDelivery {s t : State} (h : OnlyHealth s t) : OnlyDelivery s t := by
  unfold OnlyHealth at h
  unfold OnlyDelivery
  rw [h]

theorem OnlyDelivery.toUpdate {s t : State} (h : OnlyDelivery s t) : OnlyUpdate s t := by
  unfold OnlyDelivery at h
  unfold OnlyUpdate
  rw [h]

theorem OnlyDelivery.toAccepting {s t : State} (h : OnlyDelivery s t) : OnlyAccepting s t := by
  unfold OnlyDelivery at h
  unfold OnlyAccepting
  rw [h]

theorem OnlyReports.toHealth {s t : State} (h : OnlyReports s t) : OnlyHealth s t := by
  unfold OnlyReports at h
  unfold OnlyHealth
  rw [h]

theorem OnlyReports.toDelivery {s t : State} (h : OnlyReports s t) : OnlyDelivery s t := by
  unfold OnlyReports at h
  unfold OnlyDelivery
  rw [h]

theorem OnlyReports.toUpdate {s t : State} (h : OnlyReports s t) : OnlyUpdate s t := by
  unfold OnlyReports at h
  unfold OnlyUpdate
  rw [h]

theorem OnlyHealth.toUpdate {s t : State} (h : OnlyHealth s t) : OnlyUpdate s t := by
  unfold OnlyHealth at h
  unfold OnlyUpdate
  rw [h]

theorem OnlySelection.toUpdate {s t : State} (h : OnlySelection s t) : OnlyUpdate s t := by
  unfold OnlySelection at h
  unfold OnlyUpdate
  rw [h]

theorem OnlyReports.toAccepting {s t : State} (h : OnlyReports s t) : OnlyAccepting s t := by
  unfold OnlyReports at h
  unfold OnlyAccepting
  rw [h]

theorem OnlySelection.toAccepting {s t : State} (h : OnlySelection s t) : OnlyAccepting s t := by
  unfold OnlySelection at h
  unfold OnlyAccepting
  rw [h]

/-! ### Reports -/

theorem setRing_only (s : State) (r : RingId) (x : Ring) : OnlyReports s (s.setRing r x) := rfl

theorem listStatus_only (s : State) : OnlyReports s (listStatus s) := by
  unfold listStatus; split <;> rfl

theorem setPending_only (r : RingId) (s : State) : OnlyReports s (setPending r s) := by
  unfold setPending; split
  · rfl
  · exact (setRing_only s r _).trans (listStatus_only _)

theorem clearPending_only (r : RingId) (s : State) : OnlyReports s (clearPending r s) := by
  unfold clearPending; split
  · exact (setRing_only s r _).trans (listStatus_only _)
  · rfl

theorem countDrop_only (k : ReportKind) (s : State) : OnlyReports s (countDrop k s) := by
  unfold countDrop
  dsimp only
  split <;> split <;> first
    | with_reducible exact (setRing_only s _ _).trans (setPending_only 0 _)
    | with_reducible exact setPending_only 0 _
    | with_reducible exact OnlyReports.refl s
    | with_reducible exact setRing_only s _ _

theorem submit_only (r : Report) (s : State) : OnlyReports s (submit r s) := by
  unfold submit; split
  · rfl
  · split
    · rfl
    · exact countDrop_only _ s

theorem slotEvent_only (cause : Nat) (r : Route) (slot : Nat) (b : Option Binding) (o : Time) (tag : Nat) (s : State) :
    OnlyReports s (slotEvent cause r slot b o tag s) := submit_only _ s

theorem memoryError_only (cause : Nat) (a : Addr) (tag : Nat) (s : State) : OnlyReports s (memoryError cause a tag s) :=
  submit_only _ s

/-! ### Routes -/

theorem setRouteRec_only (s : State) (r : Route) (x : RouteRecord) : OnlySelection s (s.setRouteRec r x) := rfl

theorem choose_only (r : Route) (c : RouteCause) (q : Option Path) (n : Choice) (s : State) :
    OnlySelection s (choose r c q n s) := by
  unfold choose
  dsimp only
  split
  · rfl
  · exact (setRouteRec_only s r _).trans (submit_only _ _).toSelection

theorem reselectRoute_only (q : Path) (a b : Health) (r : Route) (s : State) :
    OnlySelection s (reselectRoute q a b r s) := by
  unfold reselectRoute; split
  · split
    · exact choose_only ..
    · rfl
  · rfl

theorem reselect_only (q : Path) (a b : Health) (s : State) : OnlySelection s (reselect q a b s) :=
  OnlySelection.foldl (fun s r => reselectRoute_only q a b r s) _ s

theorem fullyReselect_only (c : RouteCause) (q : Option Path) (r : Route) (s : State) :
    OnlySelection s (fullyReselect c q r s) := choose_only ..

theorem copyIntoRoute_only (p : Path) (b : Bool) (s : State) (r : Route) : OnlySelection s (copyIntoRoute p b s r) := rfl

theorem reselectNamed_only (p : Path) (s : State) (r : Route) : OnlySelection s (reselectNamed p s r) := by
  unfold reselectNamed; split
  · exact fullyReselect_only ..
  · exact .refl s

theorem standbyChanged_only (p : Path) (b : Bool) (s : State) : OnlySelection s (standbyChanged p b s) :=
  (OnlySelection.foldl (copyIntoRoute_only p b) _ s).trans (OnlySelection.foldl (reselectNamed_only p) _ _)

theorem installRoute_only (r : Route) (s : State) : OnlySelection s (installRoute r s) := by
  unfold installRoute
  dsimp only
  split
  · exact (setRouteRec_only s r _).trans (fullyReselect_only ..)
  · rfl

theorem installRoutes_only (s : State) : OnlySelection s (installRoutes s) :=
  OnlySelection.foldl (fun s r => installRoute_only r s) _ s

theorem rerank_only (r : Route) (s : State) : OnlySelection s (rerank r s) := by
  unfold rerank
  dsimp only
  split
  · split
    · split
      · exact choose_only ..
      · rfl
    · rfl
  · rfl

theorem fallbackReturn_only (r : Route) (s : State) : OnlySelection s (fallbackReturn r s) := by
  unfold fallbackReturn
  dsimp only
  split
  · exact fullyReselect_only ..
  · rfl

theorem countProbe_only (r : Route) (s : State) : OnlySelection s (countProbe r s) := rfl

theorem routeUpdate_only (r : Route) (s : State) : OnlySelection s (routeUpdate r s) :=
  (((installRoute_only r s).trans (rerank_only r _)).trans (fallbackReturn_only r _)).trans (countProbe_only r _)

theorem routesUpdate_only (s : State) : OnlySelection s (routesUpdate s) :=
  OnlySelection.foldl (fun s r => routeUpdate_only r s) _ s

theorem targets_only (s : State) (r : Route) : OnlySelection s (s.targets r).2 := by
  unfold State.targets
  dsimp only
  split <;> rfl

/-! ### Health -/

theorem setPathRec_only (s : State) (p : Path) (x : PathRecord) : OnlyHealth s (s.setPathRec p x) := rfl

theorem countPath_only (p : Path) (f : PathCounts → PathCounts) (s : State) : OnlyHealth s (countPath p f s) := rfl

theorem enterState_only (p : Path) (n : Health) (c : PathCause) (s : State) : OnlyHealth s (enterState p n c s) := by
  unfold enterState
  exact ((setPathRec_only s p _).trans (submit_only _ _).toHealth).trans (reselect_only ..).toHealth

theorem enterIf_only (p : Path) (x : Option (Health × PathCause)) (s : State) : OnlyHealth s (enterIf p x s) := by
  unfold enterIf; split
  · exact enterState_only ..
  · rfl

theorem takeStatusWord_only (p : Path) (w : Word) (s : State) : OnlyHealth s (takeStatusWord p w s) := by
  unfold takeStatusWord
  dsimp only
  split
  · exact setPathRec_only ..
  · exact (setPathRec_only s p _).trans (enterIf_only ..)

theorem expireTimer_only (p : Path) (s : State) : OnlyHealth s (expireTimer p s) :=
  (setPathRec_only s p _).trans (enterIf_only ..)

theorem lossCheck_only (p : Path) (s : State) : OnlyHealth s (lossCheck p s) := enterIf_only ..

theorem judgeProbation_only (p : Path) (s : State) : OnlyHealth s (judgeProbation p s) := by
  unfold judgeProbation; split
  · exact enterState_only ..
  · exact setPathRec_only ..

theorem countDown_only (p : Path) (s : State) : OnlyHealth s (countDown p s) := setPathRec_only ..

theorem countProbation_only (p : Path) (s : State) : OnlyHealth s (countProbation p s) := by
  unfold countProbation; split
  · split
    · exact (countDown_only p s).trans (judgeProbation_only ..)
    · exact countDown_only p s
  · exact .refl s

theorem ageFarEnd_only (p : Path) (s : State) : OnlyHealth s (ageFarEnd p s) := setPathRec_only ..

theorem takeFarEnd_only (p : Path) (n : Nat) (s : State) : OnlyHealth s (takeFarEnd p n s) :=
  (setPathRec_only s p _).trans (enterIf_only ..)

theorem rollPath_only (p : Path) (s : State) : OnlyHealth s (rollPath p s) := setPathRec_only ..

theorem monitorUpdate_only (p : Path) (s : State) : OnlyHealth s (monitorUpdate p s) :=
  (((lossCheck_only p s).trans (countProbation_only p _)).trans (ageFarEnd_only p _)).trans (rollPath_only p _)

theorem enablePath_only (p : Path) (s : State) : OnlyHealth s (enablePath p s) := enterIf_only ..

theorem disablePath_only (p : Path) (s : State) : OnlyHealth s (disablePath p s) := enterIf_only ..

theorem forceDown_only (p : Path) (s : State) : OnlyHealth s (forceDown p s) := by
  unfold forceDown; split
  · exact setPathRec_only ..
  · exact enterIf_only ..

theorem releaseCut_only (p : Path) (s : State) : OnlyHealth s (releaseCut p s) := enterIf_only ..

theorem cutPath_only (c : PathCause) (p : Path) (s : State) : OnlyHealth s (cutPath c p s) := enterIf_only ..

theorem cutEvent_only (c : PathCause) (s : State) : OnlyHealth s (cutEvent c s) :=
  OnlyHealth.foldl (fun s p => cutPath_only c p s) _ s

theorem releasePath_only (p : Path) (s : State) : OnlyHealth s (releasePath p s) := enterIf_only ..

theorem autoRelease_only (s : State) : OnlyHealth s (autoRelease s) := by
  unfold autoRelease; split
  · exact .refl s
  · exact OnlyHealth.foldl (fun s p => releasePath_only p s) _ s

/-! ### Arrivals -/

theorem deliverMerger_only (r : Route) (q : BitVec 24) (p : Path) (rd : Reading) (s : State) :
    OnlyDelivery s (deliverMerger r q p rd s) := by
  have h : OnlyDelivery s (s.setMerger r (s.mergers[r].take q rd p).1) := rfl
  unfold deliverMerger
  dsimp only
  split
  · exact (h.trans (countPath_only ..).toDelivery).trans (submit_only ..).toDelivery
  · exact h.trans (countPath_only ..).toDelivery

theorem deliverSample_only (p : Path) (w : Option Word) (r : Reading) (s : State) :
    OnlyHealth s (deliverSample p w r s) := setPathRec_only ..

theorem deliverReportBack_only (p : Path) (w : Option Word) (s : State) : OnlyHealth s (deliverReportBack p w s) := by
  unfold deliverReportBack; split
  · exact (setPathRec_only s p _).trans (takeFarEnd_only ..)
  · exact .refl s

theorem deliverSequence_only (p : Path) (q : BitVec 16) (s : State) : OnlyHealth s (deliverSequence p q s) :=
  setPathRec_only ..

theorem deliverMonitor_only (c : ArrivalCommit) (s : State) : OnlyHealth s (deliverMonitor c s) :=
  ((deliverSample_only ..).trans (deliverReportBack_only ..)).trans (deliverSequence_only ..)

theorem deliverBoth_only (b : Bool) (c : ArrivalCommit) (s : State) : OnlyDelivery s (deliverBoth b c s) := by
  unfold deliverBoth
  split
  · exact (deliverMonitor_only c s).toDelivery.trans (deliverMerger_only ..)
  · exact OnlyDelivery.trans (deliverMerger_only ..) (deliverMonitor_only c _).toDelivery

/-! ### Update events -/

theorem installWindow_only (s : State) (i : Fin 8) : OnlyUpdate s (installWindow s i) := by
  unfold installWindow; split <;> rfl

theorem installWindows_only (s : State) : OnlyUpdate s (installWindows s) := OnlyUpdate.foldl installWindow_only _ s

theorem reportPath_only (p : Path) (s : State) : OnlyReports s (reportPath p s) := by
  unfold reportPath
  dsimp only
  split
  · rfl
  · exact (submit_only ..).trans (submit_only ..)

theorem pathStats_only (s : State) : OnlyHealth s (pathStats s) := by
  unfold pathStats
  exact (OnlyReports.foldl (fun s p => reportPath_only p s) _ s).toHealth.trans
    (OnlyHealth.foldl (fun s p => countPath_only p _ s) _ _)

theorem reportRoute_only (r : Route) (s : State) : OnlyReports s (reportRoute r s) := by
  unfold reportRoute
  dsimp only
  split
  · rfl
  · exact submit_only ..

theorem restartRoute_only (r : Route) (s : State) : OnlyUpdate s (restartRoute r s) := rfl

theorem routeStats_only (s : State) : OnlyUpdate s (routeStats s) := by
  unfold routeStats
  exact (OnlyReports.foldl (fun s r => reportRoute_only r s) _ s).toUpdate.trans
    (OnlyUpdate.foldl (fun s r => restartRoute_only r s) _ _)

theorem rearmRoute_only (s : State) (r : Route) : OnlyUpdate s (rearmRoute s r) := rfl

theorem rearmDark_only (s : State) : OnlyUpdate s (rearmDark s) := OnlyUpdate.foldl rearmRoute_only _ s

theorem runTask_only (b : Bool) (t : UpdateTask) (s : State) : OnlyUpdate s (runTask b t s) := by
  unfold runTask
  split
  · split
    · exact (pathStats_only s).toUpdate
    · rfl
  · split
    · exact (routeStats_only s).trans (routesUpdate_only _).toUpdate
    · exact (routesUpdate_only _).toUpdate
  · exact (autoRelease_only s).toUpdate
  · exact (monitorUpdate_only _ s).toUpdate

theorem updateEvent_only (b : Bool) (w : List UpdateTask) (s : State) : OnlyUpdate s (updateEvent b w s) :=
  ((installWindows_only s).trans (rearmDark_only _)).trans (OnlyUpdate.foldl (fun s t => runTask_only b t s) _ _)

/-! ### Acceptance -/

theorem presentOffer_only (src : OfferSource) (ws : List MemWrite) (s : State) :
    OnlyAccepting s (presentOffer src ws s) := rfl

theorem offerWrites_only (t : Tag) (a m : Bool) (ws : List MemWrite) (s : State) :
    OnlyAccepting s (offerWrites t a m ws s) := rfl

theorem ackIf_only (t : Tag) (a : Bool) (s : State) : OnlyAccepting s (ackIf t a s) := by
  unfold ackIf; split <;> rfl

theorem abandon_only (r : Route) (o : OpenSlot) (s : State) : OnlyAccepting s (abandon r o s) :=
  OnlyAccepting.trans (t := s.setSteer r _) rfl (slotEvent_only ..).toAccepting

theorem openNew_only (r : Route) (n : Nat) (b : Binding) (s : State) : OnlyAccepting s (openNew r n b s) := by
  have h : OnlyAccepting s (makeRoom r s) := by
    unfold makeRoom
    split
    · split
      · rfl
      · exact OnlyAccepting.trans (t := s.setSteer r _) rfl (abandon_only ..)
    · rfl
  unfold openNew
  exact h.trans rfl

theorem darkDiscard_only (w : RouteWrite) (s : State) : OnlyAccepting s (darkDiscard w s) := by
  unfold darkDiscard
  dsimp only
  split
  · exact OnlyAccepting.trans (t := s.setSteer w.route _) rfl (ackIf_only ..)
  · exact (OnlyAccepting.trans (t := s.setSteer w.route _) rfl (slotEvent_only ..).toAccepting).trans (ackIf_only ..)

theorem discardRole_only (w : RouteWrite) (s : State) : OnlyAccepting s (discardRole w s) := by
  unfold discardRole
  exact (OnlyAccepting.trans (t := s.setSteer w.route _) rfl (slotEvent_only ..).toAccepting).trans (ackIf_only ..)

theorem steerPayload_only (w : RouteWrite) (s : State) : OnlyAccepting s (steerPayload w s) := by
  unfold steerPayload
  split
  · rfl
  · have h := (targets_only s w.route).toAccepting
    split <;> rename_i heq <;> rw [heq] at h
    · exact (h.trans (openNew_only ..)).trans rfl
    · exact h.trans (darkDiscard_only ..)

theorem countCommit_only (b : Bool) (q : Path) (s : State) : OnlyAccepting s (countCommit b q s) := rfl

theorem advancePathSeq_only (q : Path) (s : State) : OnlyAccepting s (advancePathSeq q s) := rfl

theorem countRouteCommit_only (r : Route) (b : Binding) (s : State) : OnlyAccepting s (countRouteCommit r b s) := rfl

theorem commitFrame_only (w : RouteWrite) (x : Word) (b : Binding) (s : State) :
    OnlyAccepting s (commitFrame w x b s) := by
  have h : OnlyAccepting s (countCommit false b.primary (advancePathSeq b.primary (countRouteCommit w.route b s))) :=
    ((countRouteCommit_only ..).trans (advancePathSeq_only ..)).trans (countCommit_only ..)
  unfold commitFrame
  dsimp only
  split
  · exact ((h.trans (advancePathSeq_only ..)).trans (countCommit_only ..)).trans (offerWrites_only ..)
  · exact h.trans (offerWrites_only ..)

theorem steerCommit_only (w : RouteWrite) (x : Word) (s : State) : OnlyAccepting s (steerCommit w x s) := by
  unfold steerCommit
  split
  · exact OnlyAccepting.trans (t := closeSlot w.route _ s) rfl (commitFrame_only ..)
  · have h := (targets_only s w.route).toAccepting
    split <;> rename_i heq <;> rw [heq] at h
    · exact h.trans (commitFrame_only ..)
    · exact h.trans (darkDiscard_only ..)

theorem steerWrite_only (w : RouteWrite) (s : State) : OnlyAccepting s (steerWrite w s) := by
  unfold steerWrite
  split
  · split
    · exact steerCommit_only ..
    · exact steerPayload_only ..
  · exact steerPayload_only ..

theorem receiveCommit_only (b : Bool) (w : Window) (o : Nat) (t : Tag) (bs : List Beat) (x : Word) (a : Bool)
    (s : State) : OnlyAccepting s (receiveCommit b w o t bs x a s) := by
  unfold receiveCommit
  dsimp only
  exact (OnlyAccepting.trans (t := s.setArrivals w.path _) rfl (deliverBoth_only ..).toAccepting).trans rfl

theorem placeArrival_only (p : Path) (n : Nat) (a b : Option Word) (s : State) :
    OnlyAccepting s (placeArrival p n a b s) := by
  unfold placeArrival
  dsimp only
  repeat' split
  all_goals rfl

theorem arrivalWrite_only (w : Window) (o : Nat) (t : Tag) (bs : List Beat) (a : Bool) (s : State) :
    OnlyAccepting s (arrivalWrite w o t bs a s) := by
  unfold arrivalWrite
  dsimp only
  split
  · split
    · exact OnlyAccepting.trans (t := { s with choice := s.choice + 1 }) rfl (receiveCommit_only ..)
    · exact (placeArrival_only ..).trans rfl
  · exact (placeArrival_only ..).trans rfl

theorem acceptWrite_only (w : WriteReq) (a : Bool) (s : State) : OnlyAccepting s (acceptWrite w a s) := by
  unfold acceptWrite
  split
  · rfl
  · rfl
  · split
    · dsimp only
      split
      · exact steerWrite_only ..
      · exact discardRole_only ..
    · split
      · exact arrivalWrite_only ..
      · rfl
    · unfold snoopStatus
      split
      · exact (takeStatusWord_only ..).toDelivery.toAccepting.trans rfl
      · rfl
    · rfl
    · rfl

theorem emitBeats_only (t : Tag) (e l : Bool) (ws : List Word) (s : State) :
    OnlyAccepting s (emitBeats t e l ws s) := by
  induction ws generalizing s with
  | nil => rfl
  | cons w ws ih =>
    cases ws with
    | nil => rfl
    | cons v vs => exact OnlyAccepting.trans (t := emit _ s) rfl (ih _)

theorem completeRead_only (r : ReadRec) (ws : ReadWords) (e : Bool) (s : State) :
    OnlyAccepting s (completeRead r ws e s) := by
  unfold completeRead
  dsimp only
  split
  · split
    · exact emitBeats_only ..
    · exact (emitBeats_only ..).trans (countPath_only ..).toDelivery.toAccepting
  · exact emitBeats_only ..

theorem returnReads_only (rs : List ReadRec) (s : State) : OnlyAccepting s (returnReads rs s) := by
  induction rs generalizing s with
  | nil => rfl
  | cons r rs ih =>
    unfold returnReads
    split
    · exact (completeRead_only ..).trans (ih _)
    · rfl

theorem deliverReads_only (s : State) : OnlyAccepting s (deliverReads s) := returnReads_only _ s

theorem queueRead_only (m : MemRead) (n : Nat) (s : State) : OnlyAccepting s (queueRead m n s) := by
  unfold queueRead; split <;> rfl

theorem acceptRead_only (r : ReadReq) (l : Bool) (s : State) : OnlyAccepting s (acceptRead r l s) := by
  have issue : ∀ t a es sw l d, OnlyAccepting s (issueLater t a es sw l d s) := fun t a es sw l d => by
    unfold issueLater
    exact OnlyAccepting.trans (t := { s with nextRead := _, reads := _ }) rfl (queueRead_only ..)
  have zeros : ∀ t n sw l, OnlyAccepting s (answerZeros t n sw l s) := fun t n sw l => by
    unfold answerZeros
    exact OnlyAccepting.trans (t := { s with nextRead := _, reads := _ }) rfl (deliverReads_only ..)
  unfold acceptRead
  split
  · exact issue ..
  · exact issue ..
  · split
    · split
      · exact issue ..
      · exact zeros ..
    all_goals exact issue ..

theorem accept_only (q : PortRequest) (s : State) : OnlyAccepting s (accept q s) := by
  unfold accept
  split
  · exact acceptWrite_only ..
  · exact acceptRead_only ..

end Sys2Proof.Machine
end

