-- ==== Sys2Proof/Laws/Turns.lean ====
section
/-! SUPPORT. What the turns of the arbiters and the events can change, and what happens to the Write Queue: only an
admission adds to it and only an issued write leaves it. -/

namespace Sys2Proof.Machine

/-- From `s` to `t` only these change: what the port, the snooped page words and the Command Unit reach at an admission, the Write Queue apart. -/
def OnlyAdmission (s t : State) : Prop :=
  t = { s with choice := t.choice, bus := t.bus, reads := t.reads, readWait := t.readWait, readReady := t.readReady, nextRead := t.nextRead, steer := t.steer, pathSeq := t.pathSeq, offers := t.offers, arrivals := t.arrivals, overflows := t.overflows, paths := t.paths, routes := t.routes, mergers := t.mergers, rings := t.rings, writeList := t.writeList, portWaiting := t.portWaiting, cu := t.cu }

theorem OnlyAdmission.refl (s : State) : OnlyAdmission s s := rfl

theorem OnlyAdmission.pending {s t : State} (h : OnlyAdmission s t) : t.pending = s.pending := (congrArg State.pending (show t = _ from h) :)
theorem OnlyAdmission.agents {s t : State} (h : OnlyAdmission s t) : t.agents = s.agents := (congrArg State.agents (show t = _ from h) :)
theorem OnlyAdmission.windows {s t : State} (h : OnlyAdmission s t) : t.windows = s.windows := (congrArg State.windows (show t = _ from h) :)
theorem OnlyAdmission.ctlBase {s t : State} (h : OnlyAdmission s t) : t.ctlBase = s.ctlBase := (congrArg State.ctlBase (show t = _ from h) :)
theorem OnlyAdmission.mgmtTag {s t : State} (h : OnlyAdmission s t) : t.mgmtTag = s.mgmtTag := (congrArg State.mgmtTag (show t = _ from h) :)
theorem OnlyAdmission.readIssued {s t : State} (h : OnlyAdmission s t) : t.readIssued = s.readIssued := (congrArg State.readIssued (show t = _ from h) :)
theorem OnlyAdmission.fairCount {s t : State} (h : OnlyAdmission s t) : t.fairCount = s.fairCount := (congrArg State.fairCount (show t = _ from h) :)
theorem OnlyAdmission.layout {s t : State} (h : OnlyAdmission s t) : t.layout = s.layout := (congrArg State.layout (show t = _ from h) :)
theorem OnlyAdmission.queue {s t : State} (h : OnlyAdmission s t) : t.queue = s.queue := (congrArg State.queue (show t = _ from h) :)
theorem OnlyAdmission.tb {s t : State} (h : OnlyAdmission s t) : t.tb = s.tb := (congrArg State.tb (show t = _ from h) :)
theorem OnlyAdmission.estimator {s t : State} (h : OnlyAdmission s t) : t.estimator = s.estimator := (congrArg State.estimator (show t = _ from h) :)
theorem OnlyAdmission.cut {s t : State} (h : OnlyAdmission s t) : t.cut = s.cut := (congrArg State.cut (show t = _ from h) :)

theorem OnlyAdmission.trans {s t u : State} (h : OnlyAdmission s t) (k : OnlyAdmission t u) : OnlyAdmission s u :=
  Eq.trans k (congrArg (fun x : State => { x with choice := u.choice, bus := u.bus, reads := u.reads, readWait := u.readWait, readReady := u.readReady, nextRead := u.nextRead, steer := u.steer, pathSeq := u.pathSeq, offers := u.offers, arrivals := u.arrivals, overflows := u.overflows, paths := u.paths, routes := u.routes, mergers := u.mergers, rings := u.rings, writeList := u.writeList, portWaiting := u.portWaiting, cu := u.cu }) h)

theorem OnlyAdmission.foldl {α : Type} {f : State → α → State} (h : ∀ s a, OnlyAdmission s (f s a)) (xs : List α) (s : State) :
    OnlyAdmission s (xs.foldl f s) := by
  induction xs generalizing s with
  | nil => exact .refl s
  | cons a as ih => exact (h s a).trans (ih (f s a))

/-- From `s` to `t` only these change: the Time Base and the reports. -/
def OnlyClock (s t : State) : Prop :=
  t = { s with tb := t.tb, rings := t.rings, writeList := t.writeList }

theorem OnlyClock.refl (s : State) : OnlyClock s s := rfl

theorem OnlyClock.pending {s t : State} (h : OnlyClock s t) : t.pending = s.pending := (congrArg State.pending (show t = _ from h) :)
theorem OnlyClock.choice {s t : State} (h : OnlyClock s t) : t.choice = s.choice := (congrArg State.choice (show t = _ from h) :)
theorem OnlyClock.bus {s t : State} (h : OnlyClock s t) : t.bus = s.bus := (congrArg State.bus (show t = _ from h) :)
theorem OnlyClock.agents {s t : State} (h : OnlyClock s t) : t.agents = s.agents := (congrArg State.agents (show t = _ from h) :)
theorem OnlyClock.windows {s t : State} (h : OnlyClock s t) : t.windows = s.windows := (congrArg State.windows (show t = _ from h) :)
theorem OnlyClock.ctlBase {s t : State} (h : OnlyClock s t) : t.ctlBase = s.ctlBase := (congrArg State.ctlBase (show t = _ from h) :)
theorem OnlyClock.mgmtTag {s t : State} (h : OnlyClock s t) : t.mgmtTag = s.mgmtTag := (congrArg State.mgmtTag (show t = _ from h) :)
theorem OnlyClock.portWaiting {s t : State} (h : OnlyClock s t) : t.portWaiting = s.portWaiting := (congrArg State.portWaiting (show t = _ from h) :)
theorem OnlyClock.reads {s t : State} (h : OnlyClock s t) : t.reads = s.reads := (congrArg State.reads (show t = _ from h) :)
theorem OnlyClock.readWait {s t : State} (h : OnlyClock s t) : t.readWait = s.readWait := (congrArg State.readWait (show t = _ from h) :)
theorem OnlyClock.readReady {s t : State} (h : OnlyClock s t) : t.readReady = s.readReady := (congrArg State.readReady (show t = _ from h) :)
theorem OnlyClock.readIssued {s t : State} (h : OnlyClock s t) : t.readIssued = s.readIssued := (congrArg State.readIssued (show t = _ from h) :)
theorem OnlyClock.fairCount {s t : State} (h : OnlyClock s t) : t.fairCount = s.fairCount := (congrArg State.fairCount (show t = _ from h) :)
theorem OnlyClock.nextRead {s t : State} (h : OnlyClock s t) : t.nextRead = s.nextRead := (congrArg State.nextRead (show t = _ from h) :)
theorem OnlyClock.layout {s t : State} (h : OnlyClock s t) : t.layout = s.layout := (congrArg State.layout (show t = _ from h) :)
theorem OnlyClock.steer {s t : State} (h : OnlyClock s t) : t.steer = s.steer := (congrArg State.steer (show t = _ from h) :)
theorem OnlyClock.pathSeq {s t : State} (h : OnlyClock s t) : t.pathSeq = s.pathSeq := (congrArg State.pathSeq (show t = _ from h) :)
theorem OnlyClock.queue {s t : State} (h : OnlyClock s t) : t.queue = s.queue := (congrArg State.queue (show t = _ from h) :)
theorem OnlyClock.offers {s t : State} (h : OnlyClock s t) : t.offers = s.offers := (congrArg State.offers (show t = _ from h) :)
theorem OnlyClock.arrivals {s t : State} (h : OnlyClock s t) : t.arrivals = s.arrivals := (congrArg State.arrivals (show t = _ from h) :)
theorem OnlyClock.overflows {s t : State} (h : OnlyClock s t) : t.overflows = s.overflows := (congrArg State.overflows (show t = _ from h) :)
theorem OnlyClock.paths {s t : State} (h : OnlyClock s t) : t.paths = s.paths := (congrArg State.paths (show t = _ from h) :)
theorem OnlyClock.estimator {s t : State} (h : OnlyClock s t) : t.estimator = s.estimator := (congrArg State.estimator (show t = _ from h) :)
theorem OnlyClock.routes {s t : State} (h : OnlyClock s t) : t.routes = s.routes := (congrArg State.routes (show t = _ from h) :)
theorem OnlyClock.mergers {s t : State} (h : OnlyClock s t) : t.mergers = s.mergers := (congrArg State.mergers (show t = _ from h) :)
theorem OnlyClock.cut {s t : State} (h : OnlyClock s t) : t.cut = s.cut := (congrArg State.cut (show t = _ from h) :)
theorem OnlyClock.cu {s t : State} (h : OnlyClock s t) : t.cu = s.cu := (congrArg State.cu (show t = _ from h) :)

theorem OnlyClock.trans {s t u : State} (h : OnlyClock s t) (k : OnlyClock t u) : OnlyClock s u :=
  Eq.trans k (congrArg (fun x : State => { x with tb := u.tb, rings := u.rings, writeList := u.writeList }) h)

theorem OnlyClock.foldl {α : Type} {f : State → α → State} (h : ∀ s a, OnlyClock s (f s a)) (xs : List α) (s : State) :
    OnlyClock s (xs.foldl f s) := by
  induction xs generalizing s with
  | nil => exact .refl s
  | cons a as ih => exact (h s a).trans (ih (f s a))

/-- From `s` to `t` only these change: what the events of time and of the pins reach. -/
def OnlyEvents (s t : State) : Prop :=
  t = { s with tb := t.tb, choice := t.choice, cut := t.cut, windows := t.windows, steer := t.steer, paths := t.paths, routes := t.routes, mergers := t.mergers, rings := t.rings, writeList := t.writeList }

theorem OnlyEvents.refl (s : State) : OnlyEvents s s := rfl

theorem OnlyEvents.pending {s t : State} (h : OnlyEvents s t) : t.pending = s.pending := (congrArg State.pending (show t = _ from h) :)
theorem OnlyEvents.bus {s t : State} (h : OnlyEvents s t) : t.bus = s.bus := (congrArg State.bus (show t = _ from h) :)
theorem OnlyEvents.agents {s t : State} (h : OnlyEvents s t) : t.agents = s.agents := (congrArg State.agents (show t = _ from h) :)
theorem OnlyEvents.ctlBase {s t : State} (h : OnlyEvents s t) : t.ctlBase = s.ctlBase := (congrArg State.ctlBase (show t = _ from h) :)
theorem OnlyEvents.mgmtTag {s t : State} (h : OnlyEvents s t) : t.mgmtTag = s.mgmtTag := (congrArg State.mgmtTag (show t = _ from h) :)
theorem OnlyEvents.portWaiting {s t : State} (h : OnlyEvents s t) : t.portWaiting = s.portWaiting := (congrArg State.portWaiting (show t = _ from h) :)
theorem OnlyEvents.reads {s t : State} (h : OnlyEvents s t) : t.reads = s.reads := (congrArg State.reads (show t = _ from h) :)
theorem OnlyEvents.readWait {s t : State} (h : OnlyEvents s t) : t.readWait = s.readWait := (congrArg State.readWait (show t = _ from h) :)
theorem OnlyEvents.readReady {s t : State} (h : OnlyEvents s t) : t.readReady = s.readReady := (congrArg State.readReady (show t = _ from h) :)
theorem OnlyEvents.readIssued {s t : State} (h : OnlyEvents s t) : t.readIssued = s.readIssued := (congrArg State.readIssued (show t = _ from h) :)
theorem OnlyEvents.fairCount {s t : State} (h : OnlyEvents s t) : t.fairCount = s.fairCount := (congrArg State.fairCount (show t = _ from h) :)
theorem OnlyEvents.nextRead {s t : State} (h : OnlyEvents s t) : t.nextRead = s.nextRead := (congrArg State.nextRead (show t = _ from h) :)
theorem OnlyEvents.layout {s t : State} (h : OnlyEvents s t) : t.layout = s.layout := (congrArg State.layout (show t = _ from h) :)
theorem OnlyEvents.pathSeq {s t : State} (h : OnlyEvents s t) : t.pathSeq = s.pathSeq := (congrArg State.pathSeq (show t = _ from h) :)
theorem OnlyEvents.queue {s t : State} (h : OnlyEvents s t) : t.queue = s.queue := (congrArg State.queue (show t = _ from h) :)
theorem OnlyEvents.offers {s t : State} (h : OnlyEvents s t) : t.offers = s.offers := (congrArg State.offers (show t = _ from h) :)
theorem OnlyEvents.arrivals {s t : State} (h : OnlyEvents s t) : t.arrivals = s.arrivals := (congrArg State.arrivals (show t = _ from h) :)
theorem OnlyEvents.overflows {s t : State} (h : OnlyEvents s t) : t.overflows = s.overflows := (congrArg State.overflows (show t = _ from h) :)
theorem OnlyEvents.estimator {s t : State} (h : OnlyEvents s t) : t.estimator = s.estimator := (congrArg State.estimator (show t = _ from h) :)
theorem OnlyEvents.cu {s t : State} (h : OnlyEvents s t) : t.cu = s.cu := (congrArg State.cu (show t = _ from h) :)

theorem OnlyEvents.trans {s t u : State} (h : OnlyEvents s t) (k : OnlyEvents t u) : OnlyEvents s u :=
  Eq.trans k (congrArg (fun x : State => { x with tb := u.tb, choice := u.choice, cut := u.cut, windows := u.windows, steer := u.steer, paths := u.paths, routes := u.routes, mergers := u.mergers, rings := u.rings, writeList := u.writeList }) h)

theorem OnlyEvents.foldl {α : Type} {f : State → α → State} (h : ∀ s a, OnlyEvents s (f s a)) (xs : List α) (s : State) :
    OnlyEvents s (xs.foldl f s) := by
  induction xs generalizing s with
  | nil => exact .refl s
  | cons a as ih => exact (h s a).trans (ih (f s a))

theorem OnlyAccepting.toAdmission {s t : State} (h : OnlyAccepting s t) : OnlyAdmission s t := by
  unfold OnlyAccepting at h
  unfold OnlyAdmission
  rw [h]

theorem OnlyClock.toEvents {s t : State} (h : OnlyClock s t) : OnlyEvents s t := by
  unfold OnlyClock at h
  unfold OnlyEvents
  rw [h]

theorem OnlyUpdate.toEvents {s t : State} (h : OnlyUpdate s t) : OnlyEvents s t := by
  unfold OnlyUpdate at h
  unfold OnlyEvents
  rw [h]

theorem OnlyReports.toClock {s t : State} (h : OnlyReports s t) : OnlyClock s t := by
  unfold OnlyReports at h
  unfold OnlyClock
  rw [h]

theorem OnlyReports.toAdmission {s t : State} (h : OnlyReports s t) : OnlyAdmission s t := h.toAccepting.toAdmission

/-! ### The port and the admission -/

theorem pump_only (qs : List PortRequest) (s : State) : OnlyAdmission s (pump qs s) := by
  induction qs generalizing s with
  | nil => rfl
  | cons q qs ih =>
    unfold pump
    split
    · exact (accept_only q s).toAdmission.trans (ih _)
    · rfl

theorem presentWrite_only (w : WriteReq) (s : State) : OnlyAdmission s (presentWrite w s) :=
  OnlyAdmission.trans (t := s.setWaiting (s.portWaiting ++ splitWrite w)) rfl (pump_only _ _)

theorem presentRead_only (r : ReadReq) (s : State) : OnlyAdmission s (presentRead r s) :=
  OnlyAdmission.trans (t := s.setWaiting (s.portWaiting ++ splitRead r)) rfl (pump_only _ _)

theorem presentWork_only (s : State) : OnlyAdmission s (presentWork s) := by
  unfold presentWork
  split <;> rfl

theorem cuPresent_only (s : State) : OnlyAdmission s (cuPresent s) := by
  unfold cuPresent
  split
  · exact .refl s
  · split
    · rfl
    · exact presentWork_only s

theorem takeConsumer_only (r : RingId) (w : Word) (s : State) : OnlyReports s (takeConsumer r w s) := by
  unfold takeConsumer
  dsimp only
  split
  · exact setRing_only ..
  · exact .refl s

theorem takeAcknowledge_only (w : Word) (s : State) : OnlyReports s (takeAcknowledge w s) := by
  have h : OnlyReports s (if w.getLsbD 0 then clearPending 0 s else s) := by
    split
    · exact clearPending_only ..
    · exact .refl s
  unfold takeAcknowledge
  dsimp only
  split
  · exact h.trans (clearPending_only ..)
  · exact h

theorem takeCommand_only (w : Word) (t : Tag) (s : State) : OnlyAdmission s (takeCommand w t s) := by
  unfold takeCommand
  split
  · exact OnlyAdmission.trans (t := s.setCu _) rfl (queueRead_only ..).toAdmission
  · rfl
  · rfl

theorem onPageWord_only {f : Word → State → State} (h : ∀ w s, OnlyAdmission s (f w s)) (n : Nat) (bs : List Beat)
    (k : Nat) (s : State) : OnlyAdmission s (onPageWord n bs k f s) := by
  unfold onPageWord
  split
  · exact h ..
  · exact .refl s

theorem snoopPage_only (t : Tag) (w : MemWrite) (s : State) : OnlyAdmission s (snoopPage t w s) :=
  (((onPageWord_only (fun w s => takeCommand_only w t s) _ _ _ s).trans
    (onPageWord_only (fun w s => (takeAcknowledge_only w s).toAdmission) _ _ _ _)).trans
    (onPageWord_only (fun w s => (takeConsumer_only 0 w s).toAdmission) _ _ _ _)).trans
    (onPageWord_only (fun w s => (takeConsumer_only 1 w s).toAdmission) _ _ _ _)

theorem afterAdmission_only (o : Offer) (s : State) : OnlyAdmission s (afterAdmission o s) := by
  unfold afterAdmission
  split
  · rename_i tag acks managed _
    have h : OnlyAdmission s (if managed then o.writes.foldl (fun s w => snoopPage tag w s) (ackIf tag acks s)
        else ackIf tag acks s) := by
      split
      · exact (ackIf_only ..).toAdmission.trans (OnlyAdmission.foldl (fun s w => snoopPage_only tag w s) _ _)
      · exact (ackIf_only ..).toAdmission
    exact (h.trans (pump_only ..)).trans (cuPresent_only _)
  · refine OnlyAdmission.trans ?_ (cuPresent_only _)
    split
    · split <;> rfl
    · rfl
  · exact cuPresent_only s
  · exact OnlyAdmission.trans (t := s.setCu .idle) rfl (cuPresent_only _)
  · exact .refl s

/-- An admission adds an offer's writes to the Write Queue when its entries are free, and nothing otherwise. -/
theorem admit_queue (s : State) :
    (admitOldest s).queue = s.queue ∨
      ∃ o os, s.offers = o :: os ∧ s.fits o = true ∧ (admitOldest s).queue = s.queue ++ o.writes := by
  unfold admitOldest
  split
  · rename_i o os h
    split
    · exact .inr ⟨o, os, h, ‹_›, (afterAdmission_only o _).queue⟩
    · exact .inl rfl
  · exact .inl rfl

theorem entriesOf_append (a b : List MemWrite) : entriesOf (a ++ b) = entriesOf a + entriesOf b := by
  simp [entriesOf]

/-- An admission never fills the Write Queue beyond its entries. -/
theorem admit_bounded (s : State) (h : s.queueBounded) : (admitOldest s).queueBounded := by
  unfold State.queueBounded State.occupied at *
  obtain hq | ⟨o, os, -, hf, hq⟩ := admit_queue s
  · rw [hq]; exact h
  · rw [hq, entriesOf_append]
    exact of_decide_eq_true (p := s.occupied + entriesOf o.writes ≤ Config.queueCapacity) hf

/-! ### The Report Writer -/

theorem writeRecord_only (r : Report) (a : Addr) (s : State) : OnlyAccepting s (writeRecord r a s) := by
  unfold writeRecord
  dsimp only
  have h0 : OnlyAccepting s ((presentOffer .report (ownWrites a .ringRecord
      (recordWords r s.rings[r.kind.ring].number s.rings[r.kind.ring].drops)) s).setRing r.kind.ring
      s.rings[r.kind.ring].written) :=
    (presentOffer_only ..).trans (setRing_only ..).toAccepting
  split
  · split
    · exact (h0.trans (setPending_only ..).toAccepting).trans (setPending_only ..).toAccepting
    · exact h0.trans (setPending_only ..).toAccepting
  · split
    · exact h0.trans (setPending_only ..).toAccepting
    · exact h0

theorem placeItems_only (n : Nat) (s : State) : OnlyAccepting s (placeItems n s) := by
  induction n generalizing s with
  | zero => exact .refl s
  | succ n ih =>
    unfold placeItems
    split
    · exact .refl s
    · rfl
    · rename_i r rest _
      have h : OnlyAccepting s { s with writeList := rest } := rfl
      dsimp only
      split
      · exact h.trans (writeRecord_only ..)
      · exact (h.trans (countDrop_only ..).toAccepting).trans (ih _)

theorem placeNext_only (s : State) : OnlyAccepting s (placeNext s) := by
  unfold placeNext
  split
  · exact .refl s
  · exact placeItems_only ..

/-! ### The Memory Port -/

theorem issueRead_queue (r : MemRead) (s : State) : (issueRead r s).queue = s.queue := rfl

theorem issueWrite_queue (w : MemWrite) (s : State) : (issueWrite w s).queue = s.queue.drop 1 := rfl

theorem drop_bounded (q : List MemWrite) : entriesOf (q.drop 1) ≤ entriesOf q := by
  cases q with
  | nil => simp [entriesOf]
  | cons w ws => simp [entriesOf]

theorem drainTurn_bounded (s : State) (h : s.queueBounded) : (drainTurn s).queueBounded := by
  unfold State.queueBounded State.occupied at *
  unfold drainTurn
  split
  · exact (drop_bounded _).trans h
  · exact h
  · exact h

theorem readTurn_bounded (s : State) (h : s.queueBounded) : (readTurn s).queueBounded := by
  unfold State.queueBounded State.occupied at *
  unfold readTurn
  split
  · exact h
  · split
    · exact h
    · exact (drop_bounded _).trans h
    · exact h

theorem answerRead_queue (n : Nat) (m : MemRead) (ws : ReadWords) (e : Bool) (s : State) :
    (answerRead n m ws e s).queue = s.queue := by
  unfold answerRead
  dsimp only
  refine (deliverReads_only _).queue.trans ?_
  split
  · exact (memoryError_only ..).queue
  · rfl

/-! ### Time and the pins -/

theorem setTb_only (s : State) (t : TimeBase) : OnlyClock s (s.setTb t) := rfl

theorem setCut_only (s : State) (f : Filter) : OnlyEvents s (s.setCut f) := rfl

theorem timeEvent_only (c : TimeCause) (e : Int) (s : State) : OnlyClock s (timeEvent c e s) :=
  (setTb_only s _).trans (submit_only ..).toClock

theorem timeEvents_only (cs : List TimeCause) (e : Int) (s : State) : OnlyClock s (timeEvents cs e s) :=
  OnlyClock.foldl (fun s c => timeEvent_only c e s) cs s

theorem evaluateCapture_only (s : State) : OnlyClock s (evaluateCapture s) := by
  unfold evaluateCapture
  split
  · split
    · exact .refl s
    · exact (setTb_only s _).trans (timeEvents_only ..)
  · exact .refl s

theorem expireWatch_only (s : State) : OnlyClock s (expireWatch s) := by
  unfold expireWatch
  split
  · exact .refl s
  · exact (setTb_only s _).trans (timeEvent_only ..)
  · exact (setTb_only s _).trans (timeEvent_only ..)
  · exact (setTb_only s _).trans (timeEvent_only ..)

theorem setTimeOf_only (n : BitVec 48) (m : Nat) (s : State) : OnlyClock s (setTimeOf n m s) :=
  (setTb_only s _).trans (timeEvent_only ..)

theorem clampEvent_only (r : Int) (s : State) : OnlyClock s (clampEvent r s) := by
  unfold clampEvent
  split
  · exact .refl s
  · exact timeEvent_only ..

theorem endHoldover_only (s : State) : OnlyClock s (endHoldover s) := by
  unfold endHoldover
  split
  · exact expireWatch_only s
  · exact .refl s

theorem setDisciplineOf_only (d : Discipline) (s : State) : OnlyClock s (setDisciplineOf d s) :=
  ((setTb_only s _).trans (clampEvent_only ..)).trans (endHoldover_only _)

theorem freeUpdate_only (b : Bool) (s : State) : OnlyEvents s (freeUpdate b s) :=
  OnlyEvents.trans (t := { s with choice := s.choice + 1 }) rfl (updateEvent_only ..).toEvents

theorem takeBoundary_only (s : State) : OnlyEvents s (takeBoundary s) := by
  unfold takeBoundary
  split
  · split
    · exact (setTb_only s _).toEvents.trans (freeUpdate_only ..)
    · exact (setTb_only s _).toEvents
  · exact .refl s

theorem takeRefpRise_only (s : State) : OnlyEvents s (takeRefpRise s) := by
  unfold takeRefpRise
  split
  · exact (setTb_only s _).toEvents
  · exact .refl s

theorem takeRefpFall_only (s : State) : OnlyEvents s (takeRefpFall s) := by
  unfold takeRefpFall
  split
  · exact (setTb_only s _).toEvents
  · exact .refl s

theorem takeCutRise_only (s : State) : OnlyEvents s (takeCutRise s) := by
  unfold takeCutRise
  split
  · exact (setCut_only s _).trans (cutEvent_only ..).toUpdate.toEvents
  · exact .refl s

theorem takeCutFall_only (s : State) : OnlyEvents s (takeCutFall s) := by
  unfold takeCutFall
  split
  · exact setCut_only s _
  · exact .refl s

theorem takeWatch_only (s : State) : OnlyEvents s (takeWatch s) := by
  unfold takeWatch
  split
  · exact (expireWatch_only s).toEvents
  · exact .refl s

theorem clockPeriod_only (a b : Bool) (s : State) : OnlyEvents s (clockPeriod a b s) :=
  (setTb_only s _).toEvents.trans (setCut_only ..)

theorem takeTimer_only (p : Path) (s : State) : OnlyHealth s (takeTimer p s) := by
  unfold takeTimer
  split
  · exact expireTimer_only ..
  · exact .refl s

theorem takeCountdownEnd_only (p : Path) (s : State) : OnlyEvents s (takeCountdownEnd p s) := by
  unfold takeCountdownEnd
  split
  · split
    · exact (judgeProbation_only ..).toUpdate.toEvents
    · split
      · exact takeBoundary_only s
      · exact .refl s
  · exact .refl s

theorem takeLapse_only (p : Path) (s : State) : OnlyEvents s (takeLapse p s) := by
  unfold takeLapse
  split
  · exact (setPathRec_only ..).toUpdate.toEvents
  · split
    · exact takeBoundary_only s
    · exact .refl s

/-! ### RESTART -/

/-- The reset of a RESTART changes neither the Write Queue nor the Time Base, and it comes with the queue empty. -/
theorem finishRestart_cases (s : State) :
    finishRestart s = s ∨
      ∃ c, s.restartDue = some c ∧ OnlyAdmission (resetTables c s) (finishRestart s) := by
  unfold finishRestart
  split
  · rename_i c h
    exact .inr ⟨c, h, (pump_only ..).trans (cuPresent_only _)⟩
  · exact .inl rfl

theorem finishRestart_queue (s : State) : (finishRestart s).queue = s.queue := by
  obtain h | ⟨c, -, h⟩ := finishRestart_cases s
  · rw [h]
  · exact h.queue

theorem finishRestart_tb (s : State) : (finishRestart s).tb = s.tb := by
  obtain h | ⟨c, -, h⟩ := finishRestart_cases s
  · rw [h]
  · exact h.tb

end Sys2Proof.Machine
end

