-- ==== Sys2Proof/Laws/Commands.lean ====
section
/-! SUPPORT. The end of every command of the Command Unit: a judged command presents its result as one offer, whatever its
effect was, as long as the effect leaves the arbiter's offers and the refusal record alone. -/

namespace Sys2Proof.Machine

/-- A result record is two writes of the part's own, at page offsets 0x40 and 0x48 (R35, R82). -/
theorem resultWrites_eq (s : State) (label opcode : BitVec 8) (a : Answer) :
    s.resultWrites label opcode a =
      [⟨s.pageBase + 0x40, [⟨resultWord label opcode a.status a.detail, 0xFF⟩], .commandUnit⟩,
       ⟨s.pageBase + 0x48, [⟨a.value, 0xFF⟩], .commandUnit⟩] := by
  have h : s.pageBase + 0x40 + 8 = s.pageBase + 0x48 := by
    rw [BitVec.add_assoc]
    rfl
  unfold State.resultWrites ownWrites ownWrites ownWrites ownWrite allEnables
  rw [h]

/-- The Command Unit's turn at the arbiter, with the writes of its offers spelled out (R36, R163). -/
theorem cuPresent_cuOffered (s : State) : cuPresent s = s.cuOffered := by
  unfold cuPresent State.cuOffered
  split
  · rfl
  · cases hr : s.cu.refusal with
    | some r => simp only [presentOffer, resultWrites_eq]
    | none =>
      simp only [presentWork]
      split <;>
        simp_all [presentOffer, resultWrites_eq, State.setCu, ownWrite, allEnables, snapshotAnswer, State.answered,
          State.pageBase]

/-- A judged command with nothing of the Command Unit's own at the arbiter presents its result. -/
theorem answer_eq (c : Command) (a : Answer) (s : State) (ho : s.offers.any Offer.isCommandUnit = false)
    (hr : s.cu.refusal = none) : answer c a s = s.answered c a := by
  unfold answer cuPresent
  have ho' : (s.setCu (.executing c (.answering a))).offers.any Offer.isCommandUnit = false := ho
  have hr' : (s.setCu (.executing c (.answering a))).cu.refusal = none := hr
  rw [ho', hr']
  unfold State.answered
  rw [← resultWrites_eq]
  rfl

/-- The argument data of a fetched command returns to the row that names the command. -/
theorem argumentsFor_fetched (s : State) (c : Command) (h : s.fetched c) (suits : BitVec 8 → Bool)
    (hs : suits c.opcode = true) : s.quiet.argumentsFor suits = some c := by
  obtain ⟨h1, -, -, h4⟩ := h
  unfold State.argumentsFor
  have h1' : s.quiet.cu.state = .fetching c := h1
  have h4' : s.quiet.readIssued.head?.map MemRead.ref = some .argument := h4
  rw [h1']
  cases hi : s.quiet.readIssued with
  | nil => rw [hi] at h4'; exact absurd h4' (by simp)
  | cons m ms =>
    rw [hi] at h4'
    have hm : m.ref = .argument := by simpa using h4'
    simp [hm, hs]

/-- A command whose effect leaves the offers and the Command Unit's refusal record alone: its effect on the state in
which its arguments have returned, then its result. -/
theorem judge_fetched (s : State) (c : Command) (h : s.fetched c) (suits : BitVec 8 → Bool)
    (hs : suits c.opcode = true) (f : State → Answer × State) (ho : (f s.working).2.offers = s.offers)
    (hr : (f s.working).2.cu.refusal = s.cu.refusal) :
    judge suits f s.quiet = (f s.working).2.answered c (f s.working).1 := by
  unfold judge
  rw [argumentsFor_fetched s c h suits hs]
  have hw : s.quiet.tookArguments = s.working := rfl
  simp only [hw]
  exact answer_eq c _ _ (by rw [ho]; exact h.2.2.1) (by rw [hr]; exact h.2.1)

/-- A command frozen at the present lock level has no effect (step 2 of R164). -/
theorem checked_locked (level : Nat) (errors : List (Nat × Bool)) (s : State) (e : Answer × State)
    (h : level ≤ s.cu.lockLevel) : checked level errors s e = (⟨.locked, 0, 0⟩, s) := by
  unfold checked
  rw [if_pos h]

/-- A command with a structural error has no effect (step 3 of R164). -/
theorem checked_bad (level : Nat) (errors : List (Nat × Bool)) (s : State) (e : Answer × State)
    (h : s.cu.lockLevel < level) (i : Nat) (hi : firstBad errors = some i) :
    checked level errors s e = (badArgument i, s) := by
  unfold checked
  rw [if_neg (Nat.not_le.2 h), hi]

/-- A command that passes both is executed (step 4 of R164). -/
theorem checked_executed (level : Nat) (errors : List (Nat × Bool)) (s : State) (e : Answer × State)
    (h : s.cu.lockLevel < level) (hi : firstBad errors = none) : checked level errors s e = e := by
  unfold checked
  rw [if_neg (Nat.not_le.2 h), hi]

end Sys2Proof.Machine
end

