-- ==== Sys2Proof/Laws/Paths.lean ====
section
/-! SUPPORT. What the Path Monitor's operations leave in the path records, each said once as one update of one record; and the
small lemmas of the byte swap and of the arrival table. -/

namespace Sys2Proof.Machine

/-! ### Byte swap -/

/-- A window that does not swap leaves byte enables as they are (R16). -/
@[simp] theorem swapEnable_false (e : BitVec 8) : swapEnable false e = e := rfl

/-- A window that does not swap leaves beats as they are (R16). -/
@[simp] theorem swapBeat_false (b : Beat) : swapBeat false b = b := rfl

/-- A swapped beat's enables are those a read's beat would take to memory (R16). -/
theorem swapBeat_en (swap : Bool) (b : Beat) : (swapBeat swap b).en = swapEnable swap b.en := by
  cases swap <;> rfl

/-! ### Selections -/

/-- A rank metric is read from the path records and the estimator parameters (R96). -/
theorem metricOf_congr {s t : State} (hp : t.paths = s.paths) (he : t.estimator = s.estimator) : t.metricOf = s.metricOf := by
  funext p
  unfold State.metricOf
  rw [hp, he]

/-- So is the best of some paths (R124). -/
theorem best_congr {s t : State} (hp : t.paths = s.paths) (he : t.estimator = s.estimator) : t.best = s.best := by
  funext ps
  induction ps with
  | nil => rfl
  | cons p ps ih =>
    unfold State.best
    rw [ih, metricOf_congr hp he]

/-- And the full selection of a route record (R125). -/
theorem fullSelection_congr {s t : State} (hp : t.paths = s.paths) (he : t.estimator = s.estimator) :
    t.fullSelection = s.fullSelection := by
  funext rt
  unfold State.fullSelection State.bestUp State.upCandidates State.continuing
  rw [best_congr hp he, hp]

/-- The installation of a route's preload, as one record and one selection (R122). -/
theorem installRoute_eq (r : Route) (s : State) : installRoute r s = s.routeInstalled r := by
  unfold installRoute State.routeInstalled fullyReselect
  cases hp : s.routes[r].pending
  · simp only [hp, Bool.false_eq_true, if_false]
  · simp only [hp, if_true]
    rw [setRouteRec_get, if_pos rfl]
    have h := fullSelection_congr (s := s) (t := s.setRouteRec r (s.routes[r].installed s)) rfl rfl
    exact congrArg (fun f => choose r .listApplied none (f (s.routes[r].installed s))
      (s.setRouteRec r (s.routes[r].installed s))) h

/-! ### Entries to a state -/

/-- Two updates of one path record in turn are one. -/
theorem paths_set_trans {s t u : State} {p : Path} {x : PathRecord} (g : PathRecord → PathRecord)
    (h : t.paths = s.paths.set p x) (k : u.paths = t.paths.set p (g t.paths[p])) : u.paths = s.paths.set p (g x) := by
  rw [k]
  simp [h]

/-- The entry changes of a state, with the state and the cause itself (R112). -/
theorem entryChanges_entered (run : Nat) (new : Health) (cause : Nat) (x : PathRecord) :
    { entryChanges run new x with state := new, lastCause := cause } = x.entered run new cause := by
  cases new <;> rfl

/-- An entry to a state is one update of one path record (R112). -/
theorem enterState_paths (p : Path) (new : Health) (cause : PathCause) (s : State) :
    (enterState p new cause s).paths =
      s.paths.set p { entryChanges s.tb.runNs new s.paths[p] with state := new, lastCause := cause.code } := by
  unfold enterState
  rw [(reselect_only ..).paths, (submit_only ..).paths, setPathRec_paths]

/-- A path record after a judgement. -/
def judged (run : Nat) (change : Option (Health × PathCause)) (x : PathRecord) : PathRecord :=
  match change with
  | some (new, cause) => { entryChanges run new x with state := new, lastCause := cause.code }
  | none => x

/-- A change of state, if there is one, is one update of one path record. -/
theorem enterIf_paths (p : Path) (change : Option (Health × PathCause)) (s : State) :
    (enterIf p change s).paths = s.paths.set p (judged s.tb.runNs change s.paths[p]) := by
  unfold enterIf judged
  split
  · exact enterState_paths ..
  · simp

/-! ### The work of an update event on one path -/

/-- The judgement of the loss check, as a path record (R109, R112). -/
theorem judged_losses (run : Nat) (x : PathRecord) : judged run (judgeLosses x) x = x.lossChecked := by
  by_cases d : x.hs.lossDown ≤ x.updLosses <;> by_cases f : x.hs.lossFade ≤ x.updLosses <;> cases h : x.state <;>
    simp [judgeLosses, judged, PathRecord.lossChecked, entryChanges, clearCounters, PathCause.code, h, d, f]

/-- The loss check is one update of one path record (R109). -/
theorem lossCheck_paths (p : Path) (s : State) : (lossCheck p s).paths = s.paths.set p s.paths[p].lossChecked := by
  unfold lossCheck
  rw [enterIf_paths, judged_losses]

/-- What a path on probation has to show (R110). -/
theorem probationPassed_eq (e : Estimator) (x : PathRecord) : probationPassed e x = x.isProven e.reportStale := by
  unfold probationPassed PathRecord.isProven txFresh
  cases x.tx <;> simp

/-- The judgement at the end of the countdown is one update of one path record (R110). -/
theorem judgeProbation_paths (p : Path) (s : State) :
    (judgeProbation p s).paths = s.paths.set p
      (if s.paths[p].isProven s.estimator.reportStale = true then
        { s.paths[p] with state := .up, lastCause := 14 }
      else { s.paths[p] with countdown := s.paths[p].hs.probation }) := by
  unfold judgeProbation
  rw [probationPassed_eq]
  split
  · exact enterState_paths ..
  · exact setPathRec_paths ..

/-- The probation countdown is one update of one path record (R110). -/
theorem countProbation_paths (p : Path) (s : State) :
    (countProbation p s).paths = s.paths.set p (s.paths[p].countedDown s.estimator.reportStale) := by
  unfold countProbation PathRecord.countedDown
  by_cases hp : s.paths[p].state = .probation
  · rw [if_pos hp, if_pos hp]
    by_cases hc : s.paths[p].countdown ≤ 1
    · have h0 : s.paths[p].countdown - 1 = 0 := by omega
      rw [if_pos hc, if_pos h0]
      refine (paths_set_trans (fun x => if x.isProven s.estimator.reportStale = true then
        { x with state := .up, lastCause := 14 } else { x with countdown := x.hs.probation })
        (t := countDown p s) rfl (judgeProbation_paths ..)).trans ?_
      simp only [h0, PathRecord.isProven]
      rfl
    · have h0 : s.paths[p].countdown - 1 ≠ 0 := by omega
      rw [if_neg hc, if_neg h0]
      rfl
  · rw [if_neg hp, if_neg hp]
    simp

/-- The ageing of the far-end condition and of the views is one update of one path record (R93, R111). -/
theorem rollPath_ageFarEnd_paths (p : Path) (s : State) :
    (rollPath p (ageFarEnd p s)).paths = s.paths.set p (s.paths[p].aged s.estimator.reportStale) := by
  refine (paths_set_trans rollPeriod (t := ageFarEnd p s) rfl rfl).trans ?_
  congr 1
  unfold rollPeriod PathRecord.aged
  simp only [sat8, saturate, Nat.min_comm, PathRecord.mk.injEq, true_and, and_true]
  cases s.paths[p].farEnd with
  | none => rfl
  | some age =>
    simp only [Option.map_some, lapse, lapses, Option.filter, Bool.or_eq_true, decide_eq_true_eq]
    split <;> split <;> first | rfl | omega

/-- The Path Monitor's update work is one update of one path record (R93, R109, R110, R111). -/
theorem monitorUpdate_paths (p : Path) (s : State) :
    (monitorUpdate p s).paths = s.paths.set p (s.paths[p].monitored s.estimator.reportStale) := by
  have counted := paths_set_trans (PathRecord.countedDown s.estimator.reportStale) (lossCheck_paths p s)
    ((lossCheck_only p s).estimator ▸ countProbation_paths p (lossCheck p s))
  exact paths_set_trans (PathRecord.aged s.estimator.reportStale) counted
    (((lossCheck_only p s).trans (countProbation_only ..)).estimator ▸ rollPath_ageFarEnd_paths ..)

/-- An automatic release is one update of one path record (R159). -/
theorem releasePath_paths (p : Path) (s : State) :
    (releasePath p s).paths = s.paths.set p
      (if s.paths[p].state = .cut ∧ s.paths[p].set.autoRelease = true then s.paths[p].released s.tb.runNs else s.paths[p]) := by
  unfold releasePath
  rw [enterIf_paths]
  congr 1
  split <;> rfl

/-! ### The arrival table -/

/-- A delivery keeps an arrival table of 64 records whole (R139). -/
theorem take_table_length (m : MergeRecord) (seq : BitVec 24) (rd : Reading) (p : Path) (h : m.table.length = 64) :
    (m.take seq rd p).1.table.length = 64 := by
  unfold MergeRecord.take MergeRecord.start MergeRecord.advance MergeRecord.inside MergeRecord.behind MergeRecord.start
  simp only
  repeat' split
  all_goals simp [freshTable, advanceTable, h]
  omega

/-- A delivery is one update of one merger record (R140). -/
theorem deliverMerger_mergers (r : Route) (seq : BitVec 24) (p : Path) (rd : Reading) (s : State) :
    (deliverMerger r seq p rd s).mergers = s.mergers.set r (s.mergers[r].take seq rd p).1 := by
  unfold deliverMerger
  dsimp only
  split
  · rw [(submit_only ..).mergers]; rfl
  · rfl

/-- A delivery keeps every arrival table whole (R139). -/
theorem deliverMerger_mergersWhole (r : Route) (seq : BitVec 24) (p : Path) (rd : Reading) (s : State)
    (h : s.mergersWhole) : (deliverMerger r seq p rd s).mergersWhole := by
  intro q
  rw [deliverMerger_mergers]
  by_cases hq : r = q
  · subst hq
    simpa using take_table_length _ seq rd p (h r)
  · simpa [Vector.getElem_set, Fin.ext_iff, show (r : Nat) ≠ q from fun e => hq (Fin.ext e)] using h q

end Sys2Proof.Machine
end

