-- ==== Sys2Proof/Laws/Records.lean ====
section
/-! SUPPORT. What the submission of records comes to: some reports in turn, and the drop of one. -/

namespace Sys2Proof.Machine

/-! ### Reports in turn -/

/-- No report changes nothing. -/
@[simp] theorem reported_nil (s : State) : s.reported [] = s := rfl

/-- The first report is submitted first. -/
@[simp] theorem reported_cons (s : State) (r : Report) (rs : List Report) :
    s.reported (r :: rs) = (submit r s).reported rs := rfl

/-- Two lists of reports in turn are one. -/
theorem reported_append (s : State) (rs qs : List Report) : s.reported (rs ++ qs) = (s.reported rs).reported qs :=
  List.foldl_append ..

/-! ### Drops -/

/-- The rings after a drop is taken and counted. -/
def dropCounted (rings : Vector Ring 2) (k : RingId) : Vector Ring 2 :=
  if rings[k].drops < 65535 then rings.set k { rings[k] with drops := rings[k].drops + 1, number := rings[k].number + 1 }
  else rings

/-- The count of a drop moves no pending flag (R178). -/
theorem dropCounted_pending (rings : Vector Ring 2) (k j : RingId) :
    (dropCounted rings k)[j].pending = rings[j].pending := by
  unfold dropCounted
  split
  · by_cases h : k.val = j.val
    · obtain rfl := Fin.ext h
      simp
    · simp [Vector.getElem_set_ne, h]
  · rfl

/-- The drop of a record, whatever its kind (R178, R180). -/
theorem countDrop_dropped (r : Report) (s : State) : countDrop r.kind s = s.dropped r := by
  have hc : (if s.rings[r.kind.ring].drops < 65535 then
        s.setRing r.kind.ring
          { s.rings[r.kind.ring] with
            drops := s.rings[r.kind.ring].drops + 1, number := s.rings[r.kind.ring].number + 1 }
      else s) = { s with rings := dropCounted s.rings r.kind.ring } := by
    unfold dropCounted
    split <;> rfl
  unfold countDrop
  simp only [hc]
  by_cases hu : r.kind.urgent = true
  · rw [if_pos hu]
    unfold setPending listStatus State.dropped
    rw [dropCounted_pending]
    cases hp : s.rings[(0 : Fin 2)].pending
    · simp only [hu, State.setRing]
      rw [if_neg (by decide), if_pos ⟨trivial, trivial⟩]
      unfold dropCounted
      split <;> rename_i hw <;> simp [hw]
    · simp [hu]
      rfl
  · unfold State.dropped dropCounted
    simp [hu]

end Sys2Proof.Machine
end

