-- ==== Sys2Proof/Laws/Requests.lean ====
section
/-! SUPPORT. What a request at a free port comes to: it is accepted at once, whole when it lies in one 64-byte block. -/

namespace Sys2Proof.Machine

/-- A write inside one block is not split. -/
theorem splitWrite_whole (w : WriteReq) (h : inBlock w.addr w.beats.length) : splitWrite w = [.write w true] := by
  unfold splitWrite
  simp [h.1, h.2]

/-- A read inside one block is not split. -/
theorem splitRead_whole (r : ReadReq) (h : inBlock r.addr r.enables.length) : splitRead r = [.read r true] := by
  unfold splitRead
  simp [h.1, h.2]

/-- Setting the waiting requests twice leaves the later ones. -/
@[simp] theorem setWaiting_setWaiting (s : State) (a b : List PortRequest) :
    (s.setWaiting a).setWaiting b = s.setWaiting b := rfl

/-- Where nothing waits, setting the waiting requests to none changes nothing. -/
theorem setWaiting_nil (s : State) (h : s.portWaiting = []) : s.setWaiting [] = s := by
  cases s
  simp only at h
  rw [h]
  rfl

/-- The Window Decoder looks at no request that waits. -/
@[simp] theorem classify_waiting (s : State) (qs : List PortRequest) (a : Addr) :
    (s.quiet.setWaiting qs).classify a = s.classify a := rfl

/-- One whole write at a free port is accepted, and nothing waits behind it. -/
theorem presentWrite_free (w : WriteReq) (s : State) (hf : s.portFree) (h : inBlock w.addr w.beats.length) :
    presentWrite w s.quiet = (acceptWrite w true (s.quiet.setWaiting [.write w true])).setWaiting [] := by
  unfold presentWrite pumpPort
  have hw : s.quiet.portWaiting = [] := hf.2
  rw [splitWrite_whole w h, hw, List.nil_append, setWaiting_portWaiting]
  unfold pump
  have ho : (s.quiet.setWaiting [.write w true]).portOpen = true := hf.1
  rw [if_pos ho]
  rfl

/-- One whole read at a free port is accepted, and nothing waits behind it. -/
theorem presentRead_free (r : ReadReq) (s : State) (hf : s.portFree) (h : inBlock r.addr r.enables.length) :
    presentRead r s.quiet = (acceptRead r true (s.quiet.setWaiting [.read r true])).setWaiting [] := by
  unfold presentRead pumpPort
  have hw : s.quiet.portWaiting = [] := hf.2
  rw [splitRead_whole r h, hw, List.nil_append, setWaiting_portWaiting]
  unfold pump
  have ho : (s.quiet.setWaiting [.read r true]).portOpen = true := hf.1
  rw [if_pos ho]
  rfl

end Sys2Proof.Machine
end

