-- ==== Sys2Proof/WellFormed.lean ====
section
/-! DEFINITION. Which commands can occur on the part's pins: a request carries 1 to 8 beats
(01_requests_agents_and_windows.md, The Agent Port). Every other operand has exactly the values its type holds. -/

namespace Sys2Proof

/-- A beat count is 1 to 8. -/
def beatCountOk (n : Nat) : Bool := 1 ≤ n && n ≤ 8

/-- A write request with 1 to 8 beats. -/
def WriteReq.wellFormed (w : WriteReq) : Bool := beatCountOk w.beats.length

/-- A read request with 1 to 8 beats. -/
def ReadReq.wellFormed (r : ReadReq) : Bool := beatCountOk r.enables.length

/-- The check of one command. -/
def Instr.wellFormed : Instr → Bool
  | .payloadWrite w | .commit w | .roleDiscard w | .arrivalHeaderWrite w | .receiveCommit w | .statusWord w
  | .translatedWrite w | .controlPageWrite w | .busyRefusal w | .consumerIndexWrite w | .acknowledge w => w.wellFormed
  | .slotRead r | .departureRead r | .translatedRead r => r.wellFormed
  | .powerOnReset _ _ | .departureReadData _ _ | .offerAdmit | .writeDrain | .readIssue | .readReturn _ _
  | .memoryWriteError _ _ | .captureEvent | .captureEvaluation | .watchExpiry | .boundary | .updateEvent | .statsEvent
  | .probationCountdownEnd _ | .farEndLapse _ | .statusTimerExpiry _ | .cutEdge | .recordPlacement
  | .argumentReadError | .badCommand _ | .setAgent _ | .setTiming _ | .setTime _ | .setDiscipline _ | .setLayout _
  | .setWindow _ | .setPath _ | .setHealth _ | .setEstimator _ | .setRoute _ | .setRing _ | .setRingGroup _
  | .pathAdminEnable _ | .pathAdminDisable _ | .pathAdminForceDown _ | .pathAdminReleaseCut _ | .apply _
  | .raiseLock _ | .generateUpdate _ | .generateRefPulse _ | .generateCut _ | .snapshot _ | .restart _
  | .restartReset | .timeIncrement _ _ | .refpFallingEdge | .cutLineDeasserted => true

end Sys2Proof
end

