-- ==== Sys2Proof/Tests/Slice0.lean ====
section
/-! SUPPORT. The model's own tests: ill-formed commands, one step of each command on a small state (the manual's worked
examples where it has one), and for every statement with hypotheses a state and operands that meet them. -/

-- One theorem after another: tests elaborated side by side ask for a thread each, more than the check's memory holds.
set_option Elab.async false

namespace Sys2Proof.Tests

open Sys2Proof.Machine

/-! ### Small states -/

/-- The state a command leaves. -/
def after (c : Instr) (s : State) : State :=
  match exec c s with
  | .next t => t
  | .fault _ | .refused _ => s

/-- A write with every byte enabled. -/
def write (tag : Tag) (addr : Addr) (words : List Word) : WriteReq := ⟨tag, addr, words.map (fun w => ⟨w, 0xFF⟩)⟩

/-- A read of some beats. -/
def read (tag : Tag) (addr : Addr) (n : Nat) : ReadReq := ⟨tag, addr, List.replicate n 0xFF⟩

/-- A path in UP. -/
def upPath (txBase rxBase : Addr) : PathRecord :=
  { powerOnPath with state := .up, set := { defaultSettings with txBase := txBase, rxBase := rxBase } }

/-- The floor terminal of the worked example of 01_requests_agents_and_windows.md: page at 0x2000_0000, section 256 KiB,
slot 512 bytes; route 2 is SINGLE on path 1 with path 3 in standby. -/
def bench : State :=
  { State.powerOn 0x20 0 with
    agents := (((((powerOnAgents 0).set 1 ⟨.frameEngine, 0⟩).set 8 ⟨.modem, 0⟩).set 9 ⟨.modem, 1⟩).set 10 ⟨.modem, 2⟩).set 11
      ⟨.modem, 3⟩
    layout := ⟨2, 1⟩
    windows := #v[⟨⟨true, .routeTx, 0x40000000, 2, 2, 0, false⟩, emptyWindow, false⟩,
      ⟨⟨true, .pathTx, 0x50000000, 4, 1, 0, false⟩, emptyWindow, false⟩,
      ⟨⟨true, .pathRx, 0x60000000, 4, 1, 0, true⟩, emptyWindow, false⟩,
      ⟨⟨true, .status, 0x70000000, 0, 0, 0x03000000, false⟩, emptyWindow, false⟩,
      ⟨⟨true, .plain, 0x20000000, 8, 0, 0x04000000, false⟩, emptyWindow, false⟩, emptyEntry, emptyEntry, emptyEntry]
    paths := ((Vector.replicate 8 powerOnPath).set 1 (upPath 0x01000000 0x01800000)).set 3 (upPath 0x01400000 0x01C00000)
    routes := (Vector.replicate 4 emptyRoute).set 2
      { emptyRoute with live := [⟨1, false⟩, ⟨3, true⟩], chosen := ⟨.single, some 1, none⟩, interval := 0 } }

/-- The bench with path 1's record changed. -/
def withPath (f : PathRecord → PathRecord) : State := bench.setPathRec 1 (f bench.paths[(1 : Path)])

/-- The bench with the Time Base changed. -/
def withTb (f : TimeBase → TimeBase) : State := bench.setTb (f bench.tb)

/-- The bench with route 2's open-slot list given. -/
def withSlots (l : List OpenSlot) : State := bench.setSteer 2 { emptySteer with openSlots := l }

/-- The bench with route 2's selection given. -/
def withChoice (c : Choice) : State := bench.setRouteRec 2 { bench.routes[(2 : Route)] with chosen := c }

/-- The bench with ring 0 given. -/
def withRing (x : Ring) : State := bench.setRing 0 x

/-- Seven argument words. -/
def args (a b c d e f g : Word) : ArgWords := #v[a, b, c, d, e, f, g]

/-- A command with an opcode, of tag 0. -/
def command (opcode : BitVec 8) : Command := ⟨opcode, 0x41, 0⟩

/-- A state in which the argument data of a command returns next, at a lock level. -/
def fetching (opcode : BitVec 8) (lockLevel : Nat) (s : State) : State :=
  { s with cu := ⟨.fetching (command opcode), lockLevel, none⟩, readIssued := [s.argumentRead] }

/-- A payload write to slot 2 of route 2, eight beats at slot offset 64. -/
def payload : WriteReq := write 1 0x40000440 [1, 2, 3, 4, 5, 6, 7, 8]

/-- A single-beat commit of slot 2 of route 2, length 180. -/
def commitBeat : WriteReq := write 1 0x40000400 [0x100B4]

/-- A slot record of slot 2 with a binding. -/
def slot2 (b : Binding) : OpenSlot := ⟨2, b, ⟨0, 0, 0⟩⟩

/-- Four open slots, none of them slot 2. -/
def fourSlots : List OpenSlot := [5, 6, 7, 8].map (fun n => ⟨n, ⟨1, none⟩, ⟨0, 0, 0⟩⟩)

/-- Write A of the worked example of arrivals: words 2 and 3 of slot 2 of path 1's receive window. -/
def headerWrite : WriteReq := write 9 0x60000410 [7, 8]

/-- A receive commit of slot 2 by path 1's modem: route 2, path sequence 812, route sequence 1000. -/
def receiveBeat : WriteReq := write 9 0x60000400 [0x3E8032C3100B4]

/-- A status word of path 1. -/
def status (rsl : BitVec 16) (lock : Bool) (mod : BitVec 4) : Word :=
  BitVec.setWidth 64 (mod ++ BitVec.ofBool lock ++ rsl : BitVec (4 + 1 + 16))

/-- A write of path 1's status word. -/
def statusWrite1 (w : Word) : WriteReq := write 9 0x70000040 [w]

/-- A record of a kind. -/
def record (k : ReportKind) : Report := ⟨k, 0, 1, 0, []⟩

/-! ### Ill-formed commands -/

theorem test_write_of_no_beat_is_refused : (Instr.payloadWrite (write 1 0 [])).wellFormed = false := by decide

theorem test_write_of_nine_beats_is_refused :
    (Instr.busyRefusal (write 1 0 (List.replicate 9 0))).wellFormed = false := by decide

theorem test_read_of_no_beat_is_refused : (Instr.slotRead (read 1 0 0)).wellFormed = false := by decide

theorem test_read_of_nine_beats_is_refused : (Instr.departureRead (read 1 0 9)).wellFormed = false := by decide

theorem test_eight_beats_are_well_formed :
    (Instr.commit (write 1 0 (List.replicate 8 0))).wellFormed = true ∧
      (Instr.translatedRead (read 1 0 8)).wellFormed = true ∧ Instr.offerAdmit.wellFormed = true := by decide

/-! ### The table's words -/

theorem test_no_table_word_spells_a_command :
    decodeTableWord 0 0 = none ∧ State.reset.withFetchWord 0 0 = State.reset := ⟨rfl, rfl⟩

/-! ### One step of each command -/

theorem test_power_on_reset : after (.powerOnReset 0x20 3) bench = State.powerOn 0x20 3 := by decide +kernel

theorem test_classification_of_the_mixed_table :
    bench.classify 0x20000000 = .page 0 ∧ bench.classify 0x20001000 = .window bench.windows[(4 : Fin 8)].live 0x1000 ∧
      bench.classify 0x50040200 = .window bench.windows[(1 : Fin 8)].live 0x40200 ∧
      bench.classify 0x80000000 = .through := by decide +kernel

theorem test_payload_write_opens_its_slot :
    (after (.payloadWrite payload) bench).offers = [agentOffer 1 false [⟨0x01080440, payload.beats, .agent 1⟩]] ∧
      (after (.payloadWrite payload) bench).steer[(2 : Route)].openSlots = [slot2 ⟨1, none⟩] := by decide +kernel

theorem test_payload_write_evicts_the_oldest_of_four :
    (after (.payloadWrite payload) (withSlots fourSlots)).steer[(2 : Route)].openSlots.map OpenSlot.slot = [6, 7, 8, 2] ∧
      (after (.payloadWrite payload) (withSlots fourSlots)).steer[(2 : Route)].abandoned = 1 := by decide +kernel

theorem test_commit_is_numbered_and_stamped :
    (after (.commit commitBeat) (withSlots [slot2 ⟨1, none⟩])).offers =
        [agentOffer 1 false [⟨0x01080408, [⟨stampWord bench.reading 1, 0xFF⟩], .agent 1⟩,
          ⟨0x01080400, [⟨0x3100B4, 0xFF⟩], .agent 1⟩]] ∧
      (after (.commit commitBeat) (withSlots [slot2 ⟨1, none⟩])).pathSeq[(1 : Path)] = 1 := by decide +kernel

theorem test_commit_to_two_paths_is_mirrored :
    let t := after (.commit commitBeat) (withSlots [slot2 ⟨1, some (.mirror, 3)⟩])
    (t.offers.map (fun o => entriesOf o.writes)) = [8] ∧ t.steer[(2 : Route)].mirrored = 1 ∧
      t.pathSeq[(3 : Path)] = 1 := by decide +kernel

theorem test_role_discard_of_the_mixed_table :
    let t := after (.roleDiscard (write 0 0x40000000 [0])) bench
    t.bus = [.ack 0] ∧ t.steer[(2 : Route)].roleDiscards = 1 ∧ t.offers = [] ∧ t.writeList.length = 1 := by decide +kernel

theorem test_dark_route_discards :
    let t := after (.payloadWrite payload) (withChoice darkChoice)
    t.bus = [.ack 1] ∧ t.steer[(2 : Route)].darkDiscards = 1 ∧ t.offers = [] := by decide +kernel

theorem test_slot_read_goes_to_the_primary :
    (after (.slotRead (read 1 0x40000400 2)) (withSlots [slot2 ⟨3, none⟩])).readReady.map MemRead.addr = [0x01480400] := by
  decide +kernel

theorem test_slot_read_without_a_path_returns_zeros :
    (after (.slotRead (read 1 0x40000400 2)) (withChoice darkChoice)).bus =
      [.readBeat 1 0 false false, .readBeat 1 0 false true] := by decide +kernel

theorem test_departure_read_of_the_mixed_table :
    let t := after (.departureRead (read 9 0x50040200 8)) bench
    t.readReady.map MemRead.addr = [0x01040200] ∧ t.reads.map (fun r => r.departure.isSome) = [true] := by decide +kernel

theorem test_departure_read_by_another_modem_is_only_translated :
    let t := after (.departureRead (read 10 0x50040200 8)) bench
    t.readReady.map MemRead.addr = [0x01040200] ∧ t.reads.map (fun r => r.departure.isSome) = [false] := by decide +kernel

/-- The departure of the worked example of 04_stamps_and_slot_words.md, at a reading so many ns into its second. -/
def departure2 (ns : Nat) : Departure :=
  { path := 2, reading := ⟨⟨5000100, ns, 0⟩, 2, .locked⟩, health := .up, behaviour := .blank, maxDwell := 1000000,
    txLead := 1200,
    reportBack := reportBackWord { powerOnPath with state := .up, est := some 64292001, jit := 865 }, firstWord := 0 }

/-- The four slot words of that example: a ready commit word, its ingress stamp, two words of the frame engine. -/
def slotWords2 : List Word := [0x100B4, stampWord ⟨⟨5000100, 400000, 0⟩, 2, .locked⟩ 2, 7, 8]

theorem test_first_departure_read_is_stamped :
    departureOutcome (departure2 1150000) slotWords2 = .passed true (some 750000) ∧
      (departureData (departure2 1150000) slotWords2)[2]? = some (stampWord ⟨⟨5000100, 1151200, 0⟩, 2, .locked⟩ 2) ∧
      ((departureData (departure2 1150000) slotWords2)[3]?.map (fun w => (field w 0 30, field w 30 16, field w 54 3))) =
        some (4018250, 54, 2) := by decide +kernel

theorem test_second_departure_read_is_expired :
    departureOutcome (departure2 1600000) slotWords2 = .expired ∧
      departureData (departure2 1600000) slotWords2 = 0xB4 :: slotWords2.drop 1 := by decide +kernel

theorem test_departure_stamp_field_by_field :
    let w := stampWord ⟨⟨5000100, 1151200, 0⟩, 2, .locked⟩ 2
    (field w 0 27, field w 27 30, field w 57 2, field w 59 2, field w 61 3) = (5000100, 1151200, 2, 3, 2) := by
  decide +kernel

/-- A read under departure processing whose data memory answers next. -/
def departing : State :=
  { bench with
    reads := [⟨0, 9, 4, false, true, some (departure2 1150000), none⟩]
    readIssued := [⟨.agent 0, 0x01040200, List.replicate 4 0xFF⟩] }

/-- The answer of memory to that read. -/
def memoryWords : ReadWords := #v[0x100B4, stampWord ⟨⟨5000100, 400000, 0⟩, 2, .locked⟩ 2, 7, 8, 0, 0, 0, 0]

theorem test_departure_read_data_counts_its_departure :
    let t := after (.departureReadData memoryWords false) departing
    t.bus.length = 4 ∧ t.reads = [] ∧ t.paths[(2 : Path)].period.departures = 1 ∧
      t.paths[(2 : Path)].period.dwellSum = 750000 := by decide +kernel

theorem test_arrival_header_write_is_recorded :
    (after (.arrivalHeaderWrite headerWrite) bench).arrivals[(1 : Path)] = [⟨2, some 7, some 8⟩] := by decide +kernel

theorem test_receive_commit_fields :
    commitRoute 0x3E8032C3100B4 = 2 ∧ commitPathSeq 0x3E8032C3100B4 = 812 ∧ commitRouteSeq 0x3E8032C3100B4 = 1000 := by
  decide +kernel

theorem test_receive_commit_enters_both_deliveries :
    let t := deliverBoth true (bench.gather 1 2 0 0x3E8032C3100B4 receiveBeat.beats) bench
    t.mergers[(2 : Route)].newest = 1000 ∧ t.paths[(1 : Path)].expected = some 813 ∧
      t.paths[(1 : Path)].period.wins = 1 ∧ t.paths[(1 : Path)].period.discarded = 1 := by decide +kernel

theorem test_status_word_of_a_fade :
    let s := withPath (fun x => { x with belowFade := 2 })
    let t := after (.statusWord (statusWrite1 (status (-662) true 5))) s
    t.paths[(1 : Path)].state = .fading ∧ t.paths[(1 : Path)].lastCause = 4 ∧ t.paths[(1 : Path)].belowFade = 3 ∧
      t.routes[(2 : Route)].chosen = ⟨.mirror, some 1, some 3⟩ := by decide +kernel

theorem test_status_word_at_the_levels_breaks_nothing :
    let t := after (.statusWord (statusWrite1 (status (-650) true 9))) bench
    t.paths[(1 : Path)].belowFade = 0 ∧ t.paths[(1 : Path)].aboveRecover = 0 ∧
      t.paths[(1 : Path)].timer = some 0 := by decide +kernel

theorem test_translated_write_passes_through :
    (after (.translatedWrite (write 1 0x80000000 [1, 2, 3, 4])) bench).offers =
      [agentOffer 1 false [⟨0x80000000, (write 1 0 [1, 2, 3, 4]).beats, .agent 1⟩]] := by decide +kernel

theorem test_split_write_of_the_mixed_table :
    let t := after (.payloadWrite (write 1 0x400001E8 [1, 2, 3, 4, 5, 6])) bench
    t.portWaiting = [.write (write 1 0x40000200 [4, 5, 6]) true] ∧
      t.steer[(2 : Route)].openSlots.map OpenSlot.slot = [0] := by decide +kernel

theorem test_translated_read_of_a_plain_window :
    (after (.translatedRead (read 0 0x20001000 2)) bench).readReady.map MemRead.addr = [0x04001000] := by decide +kernel

theorem test_control_page_write_is_watched :
    (after (.controlPageWrite (write 0 0x20000000 [0x410C])) bench).offers.map Offer.source = [.agent 0 true true] := by
  decide +kernel

theorem test_read_enables_are_reversed_in_a_swapping_window :
    (after (.translatedRead ⟨10, 0x60000020, [0x0F, 0x01]⟩) bench).readReady.map MemRead.enables = [[0xF0, 0x80]] ∧
      (after (.translatedRead ⟨10, 0x20001000, [0x0F, 0x01]⟩) bench).readReady.map MemRead.enables = [[0x0F, 0x01]] := by
  decide +kernel

/-- A command write of SET_ROUTE with label 0x41, at the arbiter. -/
def commandOffered : State :=
  { bench with offers := [agentOffer 0 true [⟨0x20000000, (write 0 0x20000000 [0x410C]).beats, .agent 0⟩]] }

theorem test_offer_admit_takes_the_command :
    let t := after .offerAdmit commandOffered
    t.bus = [.ack 0] ∧ t.cu.state = .fetching ⟨0x0C, 0x41, 0⟩ ∧ t.readWait.map Prod.snd = [1] ∧ t.occupied = 2 := by
  decide +kernel

theorem test_busy_refusal_is_offered :
    let t := after (.busyRefusal (write 0 0x20000000 [0x5011])) (fetching 0x11 0 bench)
    t.bus = [.ack 0] ∧ t.cu.refusal = some ⟨0x11, 0x50, true⟩ ∧ t.offers.map Offer.source = [.refusal] := by decide +kernel

/-- A write at the head of the queue and a read that overlaps it. -/
def queued : State :=
  { bench with
    queue := [⟨0x80000000, [⟨5, 0xFF⟩], .agent 1⟩]
    reads := [⟨0, 1, 1, false, true, none, none⟩]
    readWait := [(⟨.agent 0, 0x80000000, [0xFF]⟩, 1)], nextRead := 1 }

theorem test_write_drain_makes_the_waiting_read_ready :
    let t := after .writeDrain queued
    t.bus = [.memWrite ⟨0x80000000, [⟨5, 0xFF⟩], .agent 1⟩] ∧ t.queue = [] ∧ t.readWait = [] ∧
      t.readReady.map MemRead.addr = [0x80000000] := by decide +kernel

/-- A write at the head of the queue and a ready read elsewhere, after so many reads. -/
def readReady (fair : Nat) : State :=
  { bench with
    queue := [⟨0x80000000, [⟨5, 0xFF⟩], .agent 1⟩], readReady := [⟨.agent 0, 0x90000000, [0xFF]⟩], fairCount := fair }

theorem test_eighth_read_goes_ahead_and_the_ninth_waits :
    (after .readIssue (readReady 7)).fairCount = 8 ∧
      (after .readIssue (readReady 8)).bus = [.memWrite ⟨0x80000000, [⟨5, 0xFF⟩], .agent 1⟩] := by decide +kernel

/-- A read of an agent at memory. -/
def reading : State :=
  { bench with
    reads := [⟨0, 1, 1, true, true, none, none⟩], readIssued := [⟨.agent 0, 0x80000000, [0xFF]⟩], nextRead := 1 }

theorem test_read_return_swaps :
    (after (.readReturn #v[0x0102030405060708, 0, 0, 0, 0, 0, 0, 0] false) reading).bus =
      [.readBeat 1 0x0807060504030201 false true] := by decide +kernel

theorem test_memory_write_error_is_reported :
    (after (.memoryWriteError 0x1234 .commandUnit) bench).writeList =
      [.record ⟨.memoryError, 0, 2, stampWord bench.reading 0, [0x1234, 255]⟩] := by decide +kernel

theorem test_capture_event_takes_the_reading :
    (after .captureEvent (withTb (fun b => { b with refp := ⟨false, 3⟩, runNs := 9 }))).tb.current =
      some ⟨0, 0, 9, .refp, false⟩ := by decide +kernel

/-- Pulse 1 of the worked case from power-on to LOCKED: captured at 0:731000400, evaluated at 0:731000460. -/
def pulse1 : State :=
  withTb (fun b => { b with time := ⟨0, 731000460, 0⟩, current := some ⟨0, 731000400, 5, .refp, false⟩ })

theorem test_capture_evaluation_steps :
    let t := after .captureEvaluation pulse1
    t.tb.ref = .acquiring ∧ t.tb.time = ⟨1, 60, 0⟩ ∧ t.tb.epoch = 1 ∧ t.writeList.length = 1 := by decide +kernel

theorem test_floors_of_the_discipline :
    (({ powerOnTimeBase with rate := 0 } : TimeBase).discipline (-7) 0).rate = 2 := by decide +kernel

theorem test_watch_expiry_falls_back_to_holdover :
    (after .watchExpiry (withTb (fun b => { b with ref := .locked, runNs := 1100000000 }))).tb.ref = .holdover := by
  decide +kernel

theorem test_boundary_counts_down :
    (after .boundary (withTb (fun b => { b with boundaryDue := true, repetition := 2 }))).tb.repetition = 1 := by
  decide +kernel

theorem test_update_event_without_a_boundary_waits : after .updateEvent bench = bench := by decide +kernel

theorem test_stats_event_restarts_the_counts :
    (Machine.updateEvent true [] (withPath (fun x => { x with period := { x.period with commits := 4 } }))).paths[(1 : Path)].period.commits
      = 0 := by decide +kernel

/-- A boundary due that makes an update event, with path 1's record changed. -/
def updating (f : PathRecord → PathRecord) : State := (withPath f).setTb { (withPath f).tb with boundaryDue := true }

theorem test_probation_ends_in_up :
    let s := updating (fun x => { x with state := .probation, countdown := 1, rxCount := 8 })
    exec (.probationCountdownEnd 1) s = exec .boundary s ∧
      (Machine.updateEvent false [] s).paths[(1 : Path)].state = .up ∧
      (Machine.updateEvent false [] s).paths[(1 : Path)].lastCause = 14 := ⟨rfl, by decide +kernel⟩

theorem test_far_end_condition_lapses_past_report_stale :
    (after (.farEndLapse 1) (withPath (fun x => { x with farEnd := some 21 }))).paths[(1 : Path)].farEnd = none ∧
      (after (.farEndLapse 1) (withPath (fun x => { x with farEnd := some 20 }))).paths[(1 : Path)].farEnd = some 20 ∧
      (Machine.updateEvent false [] (withPath (fun x => { x with farEnd := some 20 }))).paths[(1 : Path)].farEnd = none := by
  decide +kernel

theorem test_status_timer_expires_at_its_bound :
    let s := withPath (fun x => { x with timer := some 0 })
    (after (.statusTimerExpiry 1) (s.setTb { s.tb with runNs := 50000000 })).paths[(1 : Path)].state = .down ∧
      (after (.statusTimerExpiry 1) (s.setTb { s.tb with runNs := 49999999 })).paths[(1 : Path)].state = .up := by
  decide +kernel

/-- The bench with path 1 cut-enabled and the cut line asserted for three samples. -/
def cutting : State :=
  { withPath (fun x => { x with set := { x.set with cutEnable := true } }) with cut := ⟨false, 3⟩ }

theorem test_cut_edge_cuts_the_enabled_path :
    let t := after .cutEdge cutting
    t.cut.level = true ∧ t.paths[(1 : Path)].state = .cut ∧ t.paths[(3 : Path)].state = .up ∧
      t.routes[(2 : Route)].chosen = ⟨.fallback, some 3, none⟩ := by decide +kernel

/-- The ring of the worked example of an overrun: G = 3, B = 2, I = 1. -/
def smallRing (group position : Nat) : Ring :=
  { emptyRing with
    groups := 3, perGroup := 2, group := group, position := position
    bases := Vector.replicate 16 (some 0x00100000) }

theorem test_record_placement_moves_the_ring_on :
    let t := after .recordPlacement { withRing (smallRing 0 1) with writeList := [.record (record .slotEvent)] }
    t.offers.map (fun o => entriesOf o.writes) = [16] ∧ t.rings[(0 : RingId)].group = 1 ∧
      t.rings[(0 : RingId)].position = 0 ∧ t.rings[(0 : RingId)].pending = true ∧ t.writeList = [.status] := by
  decide +kernel

theorem test_full_ring_drops :
    let t := after .recordPlacement { withRing (smallRing 2 2) with writeList := [.record (record .slotEvent)] }
    t.rings[(0 : RingId)].drops = 1 ∧ t.rings[(0 : RingId)].number = 1 ∧ t.offers = [] := by decide +kernel

theorem test_consumer_index_frees_the_full_ring :
    let t := after (.consumerIndexWrite (write 0 0x20000090 [1])) (withRing (smallRing 2 2))
    t.rings[(0 : RingId)].group = 0 ∧ t.rings[(0 : RingId)].position = 0 ∧ t.rings[(0 : RingId)].consumer = 1 := by
  decide +kernel

theorem test_acknowledge_clears_the_flag :
    let t := after (.acknowledge (write 0 0x20000088 [1])) (withRing { smallRing 0 0 with pending := true })
    t.rings[(0 : RingId)].pending = false ∧ t.irqAsserted = false ∧ t.writeList = [.status] := by decide +kernel

/-! ### One step of each command of the Command Unit -/

theorem test_argument_read_error_is_answered :
    let t := after .argumentReadError (fetching 0x0C 0 bench)
    t.cu.state = .executing (command 0x0C) .answered ∧ t.writeList.length = 1 ∧ t.readIssued = [] := by decide +kernel

theorem test_bad_command :
    after (.badCommand (args 0 0 0 0 0 0 0)) (fetching 0x13 0 bench) =
      (fetching 0x13 0 bench).working.answered (command 0x13) ⟨.badCommand, 0, 0⟩ := by decide +kernel

theorem test_set_agent :
    (after (.setAgent (args 15 1 7 0 0 0 0)) (fetching 0x01 0 bench)).agents[(15 : Tag)] = ⟨.frameEngine, 7⟩ := by
  decide +kernel

theorem test_set_agent_keeps_the_last_management :
    after (.setAgent (args 0 1 0 0 0 0 0)) (fetching 0x01 0 bench) =
      (fetching 0x01 0 bench).working.answered (command 0x01) ⟨.badArgument, 2, 0⟩ := by decide +kernel

theorem test_set_timing_rounds_down :
    let t := after (.setTiming (args 99 0 1 0 0 0 0)) (fetching 0x02 0 bench)
    t.tb.p = .ms10 ∧ t.tb.s = 1 := by decide +kernel

theorem test_set_time :
    let t := after (.setTime (args 5000000 200000 0 0 0 0 0)) (fetching 0x03 0 bench)
    t.tb.time = ⟨5000000, 200000, 0⟩ ∧ t.tb.secondsSet = true ∧ t.tb.epoch = 1 := by decide +kernel

theorem test_set_discipline_clamps_the_rate :
    let s := fetching 0x04 0 (withTb (fun b => { b with rate := -20000 }))
    (after (.setDiscipline (args 1000 100 4 10000 0x102 100 600)) s).tb.rate = -100 := by decide +kernel

theorem test_set_layout_abandons_the_open_slots :
    let t := after (.setLayout (args 65536 256 0 0 0 0 0)) (fetching 0x05 0 (withSlots fourSlots))
    t.layout = ⟨0, 0⟩ ∧ t.steer[(2 : Route)].abandoned = 4 ∧ t.steer[(2 : Route)].openSlots = [] := by decide +kernel

theorem test_set_window_waits_in_the_preload :
    let t := after (.setWindow (args 0 0x2020001 0x48000000 0 0 0 0)) (fetching 0x06 0 bench)
    t.windows[(0 : Fin 8)].live.base = 0x40000000 ∧ t.windows[(0 : Fin 8)].preload.base = 0x48000000 ∧
      t.windows[(0 : Fin 8)].pending = true := by decide +kernel

theorem test_set_path :
    (after (.setPath (args 1 2 0x02000000 0x03000040 70000 2000 0)) (fetching 0x07 0 bench)).paths[(1 : Path)].set =
      { defaultSettings with
        cls := .fibre, txBase := 0x02000000, rxBase := 0x03000040, txLead := 65535, maxDwell := 2000 } := by
  decide +kernel

theorem test_set_health_orders_the_levels :
    let h := (after (.setHealth (args 1 0 0 0 0 0 0)) (fetching 0x0A 0 bench)).paths[(1 : Path)].hs
    (h.downLevel, h.fadeLevel, h.recoverLevel) = (-20, -10, 0) := by decide +kernel

theorem test_set_estimator_clamps_the_estimates :
    let s := fetching 0x0B 0 (withPath (fun x => { x with est := some 64292001 }))
    (after (.setEstimator (args 6 4 4 1000 20 50 1)) s).paths[(1 : Path)].est = some 16000 := by decide +kernel

theorem test_set_route_of_the_worked_example :
    after (.setRoute (args 1 3 0x000300 10 8 0 0)) (fetching 0x0C 0 bench) =
      (fetching 0x0C 0 bench).working.answered (command 0x0C) ⟨.badArgument, 5, 0⟩ := by decide +kernel

theorem test_set_route_clamps_the_resync_count :
    let t := after (.setRoute (args 1 3 0x070300 10 100 0 0)) (fetching 0x0C 0 bench)
    t.routes[(1 : Route)].preload = [0, 3, 7] ∧ t.routes[(1 : Route)].pending = true ∧
      t.mergers[(1 : Route)].resyncCount = 64 := by decide +kernel

theorem test_set_ring :
    let t := after (.setRing (args 0 3 2 1 0x3FF 0 0)) (fetching 0x08 0 bench)
    t.rings[(0 : RingId)].groups = 3 ∧ t.rings[(0 : RingId)].mask = 0x3FE := by decide +kernel

theorem test_set_ring_group :
    (after (.setRingGroup (args 1 15 0x00100040 0 0 0 0)) (fetching 0x09 0 bench)).rings[(1 : RingId)].bases.toList.getD 15 none
      = some 0x00100040 := by decide +kernel

theorem test_path_admin_enable :
    (after (.pathAdminEnable (args 2 0 0 0 0 0 0)) (fetching 0x0D 3 bench)).paths[(2 : Path)].state = .probation := by
  decide +kernel

theorem test_path_admin_disable :
    (after (.pathAdminDisable (args 1 1 0 0 0 0 0)) (fetching 0x0D 2 bench)).paths[(1 : Path)].state = .disabled := by
  decide +kernel

theorem test_path_admin_force_down :
    (after (.pathAdminForceDown (args 1 2 0 0 0 0 0)) (fetching 0x0D 3 bench)).paths[(1 : Path)].state = .down := by
  decide +kernel

theorem test_path_admin_release_cut_under_the_line :
    let s := fetching 0x0D 0 { withPath (fun x => { x with state := .cut }) with cut := ⟨true, 0⟩ }
    after (.pathAdminReleaseCut (args 1 3 0 0 0 0 0)) s = s.working.answered (command 0x0D) ⟨.lineActive, 0, 1⟩ := by
  decide +kernel

theorem test_apply_installs_the_windows :
    let s := bench.setWindowEntry 0 ⟨emptyWindow, bench.windows[(0 : Fin 8)].live, true⟩
    (after (.apply (args 0 0 0 0 0 0 0)) (fetching 0x0E 3 s)).windows[(0 : Fin 8)].live = bench.windows[(0 : Fin 8)].live := by
  decide +kernel

theorem test_raise_lock :
    (after (.raiseLock (args 3 0 0 0 0 0 0)) (fetching 0x0F 1 bench)).cu.lockLevel = 3 := by decide +kernel

theorem test_generate_update_is_locked_at_level_1 :
    after (.generateUpdate (args 0 0 0 0 0 0 0)) (fetching 0x10 1 bench) =
      (fetching 0x10 1 bench).working.answered (command 0x10) ⟨.locked, 0, 0⟩ := by decide +kernel

theorem test_generate_ref_pulse :
    (after (.generateRefPulse (args 1 0 0 0 0 0 0)) (fetching 0x10 0 bench)).tb.current.map Capture.source =
      some .generated := by decide +kernel

theorem test_generate_cut :
    (after (.generateCut (args 2 0 0 0 0 0 0)) (fetching 0x10 0 cutting)).paths[(1 : Path)].lastCause = 16 := by
  decide +kernel

theorem test_snapshot_offers_its_first_word :
    let t := after (.snapshot (args 1 1 0 0 0 0 0)) (fetching 0x11 0 bench)
    t.offers.map (fun o => o.writes.map MemWrite.addr) = [[0x20000100]] ∧ (bench.pathWords 1).length = 74 ∧
      (bench.routeWords 2).length = 388 ∧ (timeBaseWords bench.tb).length = 37 ∧ (bench.ringWords 0).length = 45 := by
  decide +kernel

theorem test_snapshot_records_are_laid_out :
    laidOut (timeBaseWords pulse1.tb) (timeBaseRows pulse1.tb) ∧ laidOut (bench.pathWords 1) (bench.pathRows 1) ∧
      laidOut ((withSlots fourSlots).routeWords 2) ((withSlots fourSlots).routeRows 2) ∧
      laidOut (bench.ringWords 0) (bench.ringRows 0) := by
  unfold laidOut
  decide +kernel

theorem test_restart_drains_first :
    (after (.restart (args 0 0 0 0 0 0 0)) (fetching 0x12 0 bench)).cu.state = .executing (command 0x12) .draining := by
  decide +kernel

/-- A RESTART whose drain is done. -/
def drained : State := { bench with cu := ⟨.executing ⟨0x12, 0x41, 9⟩ .draining, 0, none⟩ }

theorem test_restart_reset_keeps_its_own_agent :
    let t := after .restartReset drained
    t.agents[(9 : Tag)] = ⟨.modem, 1⟩ ∧ t.agents[(1 : Tag)] = ⟨.none, 0⟩ ∧ t.paths[(1 : Path)] = powerOnPath ∧
      t.cu.state = .executing ⟨0x12, 0x41, 9⟩ .answered := by decide +kernel

theorem test_time_increment_is_4_ns :
    let t := after (.timeIncrement true false) (withTb (fun b => { b with time := ⟨1, 999999998, 0⟩ }))
    t.tb.time = ⟨2, 2, 0⟩ ∧ t.tb.runNs = 4 ∧ t.tb.boundaryDue = true ∧ t.tb.refp = ⟨false, 1⟩ := by decide +kernel

theorem test_refp_falling_edge :
    (after .refpFallingEdge (withTb (fun b => { b with refp := ⟨true, 3⟩ }))).tb.refp = ⟨false, 0⟩ := by decide +kernel

theorem test_cut_line_deasserted :
    (after .cutLineDeasserted { bench with cut := ⟨true, 3⟩ }).cut = ⟨false, 0⟩ := by decide +kernel

/-! ### The worked example of the Arrival Merger -/

/-- Route 2 of the worked example of 08_arrival_merging.md: N = 1,000, RESYNC_COUNT 3. -/
def merger1000 : MergeRecord :=
  { emptyMerger with
    tracking := true, newest := 1000, resyncCount := 3
    table := List.replicate 63 ⟨true, 200, 0, 0, true⟩ ++ [⟨true, 200, 103489800, 0, false⟩] }

/-- A reading at second 200. -/
def at200 (ns : Nat) : Reading := ⟨⟨200, ns, 0⟩, 1, .locked⟩

theorem test_merger_worked_example_late_copy_and_advance :
    (merger1000.take 1000 (at200 103900000) 7).2 = .late 410200 ∧
      (merger1000.take 1001 (at200 104018300) 0).2 = .win ∧
      ((merger1000.take 1001 (at200 104018300) 0).1.take 1001 (at200 104430650) 7).2 = .late 412350 := by decide +kernel

theorem test_merger_worked_example_resync :
    let m : MergeRecord := { merger1000 with newest := 1004, staleRun := 2, stale := 2 }
    (m.take 2 (at200 0) 0).2 = .win ∧ (m.take 2 (at200 0) 0).1.newest = 2 ∧ (m.take 2 (at200 0) 0).1.resyncs = 1 ∧
      (m.take 1 (at200 0) 0).1.stale = 3 := by decide +kernel

/-! ### States and operands that meet the hypotheses of the statements -/

theorem test_witness_StepRunsTheFrontCommand :
    ({ bench with pending := [.offerAdmit, .writeDrain] } : State).pending = .offerAdmit :: [.writeDrain] ∧
      bench.pending = [] := by decide

/-- A Write Queue of exactly 64 entries, with the lists at their bounds. -/
def atBounds : State :=
  { withSlots fourSlots with
    queue := List.replicate 32 ⟨0x80000000, [⟨5, 0xFF⟩], .agent 1⟩
    arrivals := Vector.replicate 8 (List.replicate 4 ⟨2, none, none⟩)
    writeList := List.replicate 8 (.record (record .slotEvent)), pending := [.payloadWrite payload] }

theorem test_witness_QueuesKeepTheirBounds :
    atBounds.queueBounded ∧ atBounds.listsBounded ∧ atBounds.mergersWhole ∧
      (withPath (fun x => { x with state := .probation, countdown := 1 })).probationsCounted ∧ reading.readsOrdered ∧
      ∃ t, step atBounds = .next t := by
  refine ⟨?_, ?_, ?_, ?_, ?_, _, rfl⟩
  · unfold State.queueBounded
    decide +kernel
  · unfold State.listsBounded
    decide +kernel
  · unfold State.mergersWhole
    decide +kernel
  · unfold State.probationsCounted
    decide +kernel
  · exact ⟨fun x h => by cases h; rfl, by decide, fun x h => by cases List.mem_singleton.mp h; decide⟩

theorem test_witness_RoutesKeepTheModeTable : bench.routesLegal ∧ ∃ t, step bench = .next t := by
  refine ⟨fun r => ?_, _, rfl⟩
  match r with
  | 0 => trivial
  | 1 => trivial
  | 2 => exact ⟨rfl, Or.inl rfl⟩
  | 3 => trivial

theorem test_witness_RateAndTimeStayInRange :
    let s := withTb (fun b => { b with rate := -20000, time := ⟨0, 999999999, 4294967295⟩ })
    s.rateBounded ∧ s.timeInRange ∧ ∃ t, step s = .next t := by
  refine ⟨?_, ?_, _, rfl⟩
  · unfold State.rateBounded
    decide +kernel
  · unfold State.timeInRange
    decide +kernel

theorem test_witness_EstimatesStayBounded :
    let s := withPath (fun x => { x with est := some 320000000 })
    s.estimatesBounded ∧ ∃ t, step s = .next t := by
  refine ⟨?_, _, rfl⟩
  unfold State.estimatesBounded
  decide +kernel

theorem test_witness_LockLevelNeverDecreases :
    (∀ b m, Instr.offerAdmit ≠ .powerOnReset b m) ∧ ∃ t, exec .offerAdmit bench = .next t :=
  ⟨fun _ _ h => Instr.noConfusion h, _, rfl⟩

/-- Beats, one for each word of a 64-byte block. -/
def eight : List Word := [1, 2, 3, 4, 5, 6, 7, 8]

theorem test_witness_WritesGoToTheirTranslatedAddress :
    bench.portFree ∧
      (inBlock (write 1 0x80000000 eight).addr 8 ∧ bench.classify 0x80000000 = .through) ∧
      (inBlock (0x20000FF8 : Addr) 1 ∧ bench.classify 0x20000FF8 = .page 0xFF8) ∧
      (inBlock (0x20001038 : Addr) 1 ∧ bench.classify 0x20001038 = .window bench.windows[(4 : Fin 8)].live 0x1038) ∧
      (inBlock (0x70000000 : Addr) 8 ∧ bench.classify 0x70000000 = .window bench.windows[(3 : Fin 8)].live 0 ∧
        bench.agents[(0 : Tag)].role ≠ .modem) ∧
      (bench.classify 0x70000040 = .window bench.windows[(3 : Fin 8)].live 0x40 ∧ inBlock (0x70000040 : Addr) 1 ∧
        coveredWord 0x40 [⟨5, 0x7F⟩] (8 * bench.agents[(9 : Tag)].path.val) = none ∧
        coveredWord 0x40 [⟨5, 0xFF⟩] (8 * bench.agents[(8 : Tag)].path.val) = none) ∧
      (inBlock (0x500FFFF8 : Addr) 1 ∧ bench.classify 0x500FFFF8 = .window bench.windows[(1 : Fin 8)].live 0xFFFF8) ∧
      (inBlock (0x60000000 : Addr) 8 ∧ bench.classify 0x60000000 = .window bench.windows[(2 : Fin 8)].live 0 ∧
        ¬ (bench.agents[(10 : Tag)].role = .modem ∧ bench.agents[(10 : Tag)].path = bench.windows[(2 : Fin 8)].live.path)) := by
  unfold State.portFree inBlock
  decide +kernel

/-- The bench with one offer at the arbiter behind so many single-beat writes. -/
def offering (n : Nat) (src : OfferSource) : State :=
  { bench with
    queue := List.replicate n ⟨0x80000000, [⟨5, 0xFF⟩], .agent 1⟩
    offers := [⟨src, [⟨0x90000000, [⟨6, 0xFF⟩], .agent 1⟩]⟩] }

/-- The bench with a PLAIN window over route 2's, in a later entry. -/
def overlaid : State :=
  bench.setWindowEntry 6 ⟨⟨true, .plain, 0x40000000, 8, 0, 0x05000000, false⟩, emptyWindow, false⟩

theorem test_witness_WritesGoToTheirTranslatedAddress_classes :
    overlaid.classify 0x40000400 = .window overlaid.windows[(0 : Fin 8)].live 0x400 ∧
      ({ overlaid with layout := ⟨3, 1⟩ } : State).classify 0x40000400 =
        .window overlaid.windows[(6 : Fin 8)].live 0x400 ∧
      bench.classify 0x20000FFF = .page 0xFFF ∧ bench.classify 0x40040000 = .through := by decide +kernel

theorem test_witness_SplitWritesHoldTheirSecondHalf :
    bench.portFree ∧ wordAligned 0x80000038 = 0x80000038 ∧ beatsBelowBoundary 0x80000038 < [(1 : Word), 2].length ∧
      bench.classify 0x80000038 = .through := by
  unfold State.portFree
  decide +kernel

/-- A read of the last word of slot 0 of route 1 and word 0 of slot 1, on path 1, by the path's modem. -/
def splitRead1 : ReadReq := read 9 0x500401F8 2

/-- The bench after the acceptance of its first half. -/
def firstHalf : State := bench.halfAccepted 9 0x010401F8 [0xFF] false false none

/-- And of its second half, which is under departure processing. -/
def secondHalf : State :=
  firstHalf.halfAccepted 9 0x01040200 [0xFF] false true
    (some ⟨1, bench.reading, .up, .blank, 1000000, 0, reportBackWord bench.paths[(1 : Path)], 0⟩)

theorem test_witness_SplitReadsAreTakenInHalves :
    (bench.portFree ∧ beatsBelowBoundary splitRead1.addr < splitRead1.enables.length ∧ splitRead1.enables.length ≤ 8 ∧
        wordAligned splitRead1.addr = splitRead1.addr ∧ bench.reads = []) ∧
      bench.halfTaken ⟨9, 0x500401F8, [0xFF]⟩ false firstHalf ∧
      firstHalf.halfTaken ⟨9, 0x50040200, [0xFF]⟩ true secondHalf ∧
      after (.departureRead splitRead1) bench = secondHalf := by
  refine ⟨?_, Or.inl ⟨_, _, none, Or.inr ⟨bench.windows[(1 : Fin 8)].live, 0x401F8, ?_⟩, rfl⟩,
    Or.inl ⟨_, _, _, Or.inr ⟨bench.windows[(1 : Fin 8)].live, 0x40200, ?_⟩, rfl⟩, ?_⟩
  · unfold State.portFree
    decide +kernel
  · exact ⟨by decide +kernel, rfl, by decide +kernel, by decide +kernel⟩
  · exact ⟨by decide +kernel, rfl, by decide +kernel, by decide +kernel⟩
  · decide +kernel

theorem test_witness_RequestsWaitAtAHeldPort :
    let s := offering 0 (.agent 1 false false)
    s.portOpen = false ∧ inBlock (0x80000000 : Addr) 8 ∧
      (after (.translatedRead (read 1 0x80000000 8)) s).portWaiting = [.read (read 1 0x80000000 8) true] := by
  unfold inBlock
  decide +kernel

theorem test_witness_ReadsGoToTheirTranslatedAddress :
    bench.portFree ∧ (inBlock (0x80000000 : Addr) 8 ∧ bench.classify 0x80000000 = .through) ∧
      bench.classify 0x20000000 = .page 0 ∧ bench.classify 0x20001000 = .window bench.windows[(4 : Fin 8)].live 0x1000 ∧
      bench.classify 0x70000000 = .window bench.windows[(3 : Fin 8)].live 0 ∧
      bench.classify 0x60000000 = .window bench.windows[(2 : Fin 8)].live 0 ∧
      (bench.classify 0x50000000 = .window bench.windows[(1 : Fin 8)].live 0 ∧
        ¬ (bench.agents[(1 : Tag)].role = .modem ∧ bench.agents[(1 : Tag)].path = bench.windows[(1 : Fin 8)].live.path)) ∧
      drainsFor ⟨.agent 0, 0x80000000, [0xFF]⟩ queued.queue = 0 + 1 ∧
      (overlaps ⟨.agent 0, 0x80000000, [0, 0]⟩ ⟨0x80000008, [⟨5, 0⟩], .agent 1⟩ = true ∧
        overlaps ⟨.agent 0, 0x80000000, [0, 0]⟩ ⟨0x80000010, [⟨5, 0⟩], .agent 1⟩ = false) := by
  unfold State.portFree inBlock
  decide +kernel

/-- Route 2's window of the bench. -/
def routeWindow : Window := bench.windows[(0 : Fin 8)].live

theorem test_witness_DiscardsAreAcknowledgedAndCounted :
    bench.writeTo (write 0 0x40000000 [0]) .management .routeTx routeWindow 0 ∧
      (withChoice darkChoice).writeTo payload .frameEngine .routeTx routeWindow 0x440 ∧
      (withChoice darkChoice).openSlot routeWindow.route (0x440 / (withChoice darkChoice).layout.slot) = none ∧
      (withChoice darkChoice).routes[routeWindow.route].chosen.mode = .dark := by
  unfold State.writeTo State.portFree inBlock
  decide +kernel

theorem test_witness_PayloadFollowsTheSlotsRecord :
    (withSlots [slot2 ⟨1, some (.probe, 3)⟩]).writeTo payload .frameEngine .routeTx routeWindow 0x440 ∧
      isCommit (0x440 % bench.layout.slot) payload.beats = false ∧
      (withSlots [slot2 ⟨1, some (.probe, 3)⟩]).openSlot routeWindow.route (0x440 / bench.layout.slot) =
        some (slot2 ⟨1, some (.probe, 3)⟩) := by
  unfold State.writeTo State.portFree inBlock
  decide +kernel

theorem test_witness_PayloadOpensAnUnlistedSlot :
    let s := withSlots (fourSlots.drop 1)
    let u := withSlots fourSlots
    (s.writeTo payload .frameEngine .routeTx routeWindow 0x440 ∧ u.writeTo payload .frameEngine .routeTx routeWindow 0x440) ∧
      isCommit (0x440 % bench.layout.slot) payload.beats = false ∧
      (s.openSlot routeWindow.route (0x440 / bench.layout.slot) = none ∧ s.targets routeWindow.route = (some ⟨1, none⟩, s)) ∧
      (u.openSlot routeWindow.route (0x440 / bench.layout.slot) = none ∧ u.targets routeWindow.route = (some ⟨1, none⟩, u)) ∧
      s.steer[routeWindow.route].openSlots.length < 4 ∧ u.steer[routeWindow.route].openSlots = fourSlots ∧
      (fourSlots.drop 1).length = 3 := by
  unfold State.writeTo State.portFree inBlock
  decide +kernel

theorem test_witness_CommitsAreNumberedStampedAndCounted :
    let s := withSlots [slot2 ⟨1, none⟩]
    s.writeTo commitBeat .frameEngine .routeTx routeWindow 0x400 ∧
      coveredWord (0x400 % s.layout.slot) commitBeat.beats 0 = some 0x100B4 ∧ readyBit 0x100B4 = true ∧
      s.openSlot routeWindow.route (0x400 / s.layout.slot) = some (slot2 ⟨1, none⟩) := by
  unfold State.writeTo State.portFree inBlock
  decide +kernel

theorem test_witness_CommitsToTwoPathsShareTheRouteSequence :
    let s := withSlots [slot2 ⟨1, some (.probe, 3)⟩]
    s.writeTo commitBeat .frameEngine .routeTx routeWindow 0x400 ∧
      coveredWord (0x400 % s.layout.slot) commitBeat.beats 0 = some 0x100B4 ∧ readyBit 0x100B4 = true ∧
      s.openSlot routeWindow.route (0x400 / s.layout.slot) = some (slot2 ⟨1, some (.probe, 3)⟩) ∧ (1 : Path) ≠ 3 := by
  unfold State.writeTo State.portFree inBlock
  decide +kernel

theorem test_witness_UnlistedCommitsBindAndClose :
    let s := withSlots fourSlots
    s.writeTo commitBeat .frameEngine .routeTx routeWindow 0x400 ∧
      coveredWord (0x400 % s.layout.slot) commitBeat.beats 0 = some 0x100B4 ∧ readyBit 0x100B4 = true ∧
      s.openSlot routeWindow.route (0x400 / s.layout.slot) = none ∧ s.targets routeWindow.route = (some ⟨1, none⟩, s) := by
  unfold State.writeTo State.portFree inBlock
  decide +kernel

theorem test_witness_SlotWordFields :
    (at200 999999999).time.ns < 1000000000 ∧ (upPath 0 0).est = none ∧
      ({ upPath 0 0 with est := some 17 } : PathRecord).est = some 17 := by decide

theorem test_readings_have_the_quality_of_the_reference_state :
    let quality := fun seconds ref => (withTb (fun b => { b with secondsSet := seconds, ref := ref })).reading.quality
    [quality false .locked, quality true .free, quality true .acquiring, quality true .holdover, quality true .locked] =
      [.unset, .free, .holdover, .holdover, .locked] := by decide +kernel

theorem test_witness_SlotReadsFollowTheBinding :
    bench.portFree ∧ inBlock (0x40000400 : Addr) 8 ∧ bench.classify 0x40000400 = .window routeWindow 0x400 ∧
      routeWindow.kind = .routeTx ∧
      (withSlots [slot2 ⟨3, none⟩]).openSlot routeWindow.route (0x400 / bench.layout.slot) = some (slot2 ⟨3, none⟩) ∧
      (bench.openSlot routeWindow.route (0x400 / bench.layout.slot) = none ∧
        bench.routes[routeWindow.route].chosen.active = some 1) ∧
      ((withChoice darkChoice).classify 0x40000400 = .window routeWindow 0x400 ∧
        (withChoice darkChoice).openSlot routeWindow.route (0x400 / bench.layout.slot) = none ∧
        (withChoice darkChoice).routes[routeWindow.route].chosen.active = none ∧ (withChoice darkChoice).reads = []) ∧
      (let s : State := { withChoice darkChoice with reads := reading.reads }
       s.openSlot routeWindow.route (0x400 / s.layout.slot) = none ∧ s.routes[routeWindow.route].chosen.active = none ∧
         s.reads.map ReadRec.answer = [none] ∧ (after (.slotRead (read 1 0x40000400 8)) s).reads.length = 2) := by
  unfold State.portFree inBlock
  decide +kernel

theorem test_witness_DepartureReadsAreFixedAtAcceptance :
    let win := bench.windows[(1 : Fin 8)].live
    bench.portFree ∧ win.kind = .pathTx ∧
      (inBlock (0x50040200 : Addr) 1 ∧ bench.classify 0x50040200 = .window win 0x40200 ∧
        bench.agents[(9 : Tag)].role = .modem ∧ bench.agents[(9 : Tag)].path = win.path ∧
        0x40200 % bench.layout.section % bench.layout.slot / 8 = 0) ∧
      (inBlock (0x50040220 : Addr) 4 ∧ bench.classify 0x50040220 = .window win 0x40220 ∧
        0x40220 % bench.layout.section % bench.layout.slot / 8 = 4) := by
  unfold State.portFree inBlock
  decide +kernel

theorem test_witness_DepartureReadsReturnProcessed :
    departing.reads = [⟨0, 9, 4, false, true, some (departure2 1150000), none⟩] ∧
      departing.readIssued = [⟨.agent 0, 0x01040200, List.replicate 4 0xFF⟩] ∧
      ({ departing with reads := departing.reads ++ [⟨1, 1, 1, false, true, none, none⟩] } : State).reads.map ReadRec.id =
        [0, 1] := ⟨rfl, rfl, rfl⟩

theorem test_witness_DepartureProcessingOfTheData :
    (departure2 1400000).firstWord = 0 ∧
      (departureOutcome (departure2 1400000) slotWords2 ≠ .blanked ∧ departureOutcome (departure2 1400000) slotWords2 ≠ .expired) ∧
      departureOutcome (departure2 1400001) slotWords2 = .expired ∧
      departureOutcome { departure2 1150000 with health := .cut } slotWords2 = .blanked ∧
      departureOutcome { departure2 1150000 with firstWord := 2 } slotWords2 = .passed true none ∧
      (departureOutcome { departure2 1400001 with health := .cut, firstWord := 1 } (slotWords2.drop 1) =
          .passed true (some 1000001) ∧
        departureOutcome { departure2 1150000 with firstWord := 1 } (slotWords2.take 1) = .passed false none ∧
        departureOutcome { departure2 1150000 with health := .cut, firstWord := 3 } slotWords2 = .passed false none) := by
  decide +kernel

/-- The bench with path 1's pending-arrival list given. -/
def withArrivals (l : List PendingArrival) : State := bench.setArrivals 1 l

theorem test_witness_HeaderWritesFillThePendingArrivals :
    let win := bench.windows[(2 : Fin 8)].live
    let others : List PendingArrival := [5, 6, 7].map (fun n => ⟨n, none, none⟩)
    let full : List PendingArrival := ⟨4, none, none⟩ :: others
    bench.writeTo (write 9 0x60000480 eight) .modem .pathRx win 0x480 ∧
      (bench.agents[(9 : Tag)].path = win.path ∧ isCommit (0x480 % bench.layout.slot) (write 9 0 eight).beats = false ∧
        coveredWord (0x480 % bench.layout.slot) (write 9 0 eight).beats 2 = none ∧
        coveredWord (0x480 % bench.layout.slot) (write 9 0 eight).beats 3 = none) ∧
      (withArrivals others).writeTo headerWrite .modem .pathRx win 0x410 ∧
      (withArrivals full).writeTo headerWrite .modem .pathRx win 0x410 ∧
      (withArrivals [⟨2, none, some 9⟩]).writeTo headerWrite .modem .pathRx win 0x410 ∧
      isCommit (0x410 % bench.layout.slot) headerWrite.beats = false ∧
      coveredWord (0x410 % bench.layout.slot) headerWrite.beats 2 = some 7 ∧ others.length < 4 ∧
      full.any (fun a => a.slot == 2) = false := by
  unfold State.writeTo State.portFree inBlock
  decide +kernel

theorem test_witness_ReceiveCommitsAreStampedAndMerged :
    bench.receives receiveBeat 1 bench.windows[(2 : Fin 8)].live 0x400 0x3E8032C3100B4 := by
  unfold State.receives State.writeTo State.portFree inBlock
  decide +kernel

/-- A route merger's last delivery before a resync, with two ring records in the write list. -/
def resyncing : State :=
  { bench.setMerger 2 { merger1000 with newest := 1064, staleRun := 2 } with
    writeList := List.replicate 2 (.record (record .slotEvent)) }

theorem test_witness_ReceiveCommitsAreStampedAndMerged_resync :
    resyncing.receives receiveBeat 1 bench.windows[(2 : Fin 8)].live 0x400 0x3E8032C3100B4 ∧
      (resyncing.mergers[(2 : Route)].tracking = true ∧
        (commitRouteSeq 0x3E8032C3100B4 - resyncing.mergers[(2 : Route)].newest).toInt = -64 ∧
        resyncing.mergers[(2 : Route)].resyncCount = min 255 (resyncing.mergers[(2 : Route)].staleRun + 1)) ∧
      resyncing.rings[(0 : Fin 2)].mask.getLsbD 5 = false ∧ (resyncing.writeList.filter ListItem.isRecord).length = 2 ∧
      (deliverBoth false (resyncing.gather 1 2 0 0x3E8032C3100B4 receiveBeat.beats) resyncing).writeList.length = 3 := by
  refine ⟨?_, ?_⟩
  · unfold State.receives State.writeTo State.portFree inBlock
    decide +kernel
  · decide +kernel

/-- The bench with path 1 expecting a sequence. -/
def expecting (e : Option (BitVec 16)) : State := withPath (fun x => { x with expected := e })

theorem test_witness_SequenceGapsCountAsLosses (e : Option (BitVec 16)) :
    (expecting e).paths[(1 : Path)].expected = e ∧
      (expecting e).receives receiveBeat 1 bench.windows[(2 : Fin 8)].live 0x400 0x3E8032C3100B4 :=
  ⟨rfl, test_witness_ReceiveCommitsAreStampedAndMerged⟩

theorem test_witness_SequenceGapsCountAsLosses_bounds :
    (commitPathSeq 0x3E8032C3100B4 - 33581).toNat = 32767 ∧ (commitPathSeq 0x3E8032C3100B4 - 33580).toNat = 32768 :=
  ⟨rfl, rfl⟩

/-- A receive commit with a sample so many ns old at the limit of plausibility, and a report-back word of a path DOWN. -/
def sampled (age : Nat) : State × WriteReq :=
  (withTb (fun b => { b with time := ⟨200, 500000000, 0⟩, secondsSet := true, ref := .locked }),
    write 9 0x60000400
      [0x3E8032C3100B4, 0, stampWord ⟨⟨200, 500000000 - age, 0⟩, 0, .locked⟩ 1,
        reportBackWord { powerOnPath with state := .down, est := some 16 }])

theorem test_witness_SequenceGapsCountAsLosses_words :
    let s := (sampled 0).1
    let words := fun age => (sampled age).2.beats
    (∀ age ∈ [20000000, 20000001], s.receives (sampled age).2 1 bench.windows[(2 : Fin 8)].live 0x400 0x3E8032C3100B4 ∧
      (coveredWord (0x400 % s.layout.slot) (words age) 2).map (sinceStamp s.reading) = some (age : Int)) ∧
      (s.estimator.maxPlausible = 20000000 ∧ s.reading.quality = .locked ∧ s.paths[(1 : Path)].farEpoch = none) ∧
      (coveredWord (0x400 % s.layout.slot) (words 0) 3).map (fun w => field w 54 3) = some 4 := by
  unfold State.receives State.writeTo State.portFree inBlock
  decide +kernel

theorem test_receive_commit_takes_a_sample_at_the_limit :
    let y := fun age =>
      (deliverBoth true ((sampled age).1.gather 1 2 0 0x3E8032C3100B4 (sampled age).2.beats) (sampled age).1).paths[(1 : Path)]
    ((y 20000000).est, (y 20000000).period.samples, (y 20000001).est, (y 20000001).period.discarded) =
        (some 320000000, 1, none, 1) ∧
      ((y 0).state, (y 0).lastCause, (y 0).farEnd, (y 0).tx) = (.down, 10, some 0, some ⟨1, 0, 0⟩) := by decide +kernel

/-- A state in which path 1 is in a health state and its modem writes a status word. -/
def inState (h : Health) : State := withPath (fun x => { x with state := h })

theorem test_witness_StatusWordsAreStoredAndCounted :
    ∀ h ∈ [Health.disabled, .up], (inState h).paths[(1 : Path)].state = h ∧
      (inState h).statusWrite (statusWrite1 (status (-600) true 9)) 1 (status (-600) true 9) := by
  unfold State.statusWrite State.writeTo State.portFree inBlock
  intro h hh
  refine ⟨?_, bench.windows[(3 : Fin 8)].live, 0x40, ?_⟩ <;> revert h <;> decide +kernel

theorem test_witness_StatusWordsAreJudgedByState :
    ∀ h ∈ [Health.disabled, .probation, .up, .fading, .down, .cut],
      (inState h).statusWrite (statusWrite1 (status (-600) true 9)) 1 (status (-600) true 9) := by
  unfold State.statusWrite State.writeTo State.portFree inBlock
  intro h hh
  refine ⟨bench.windows[(3 : Fin 8)].live, 0x40, ?_⟩
  revert h
  decide +kernel

theorem test_witness_StatusWordsAreJudgedByState_entry :
    let s := withPath (fun x => { x with belowFade := 2, aboveRecover := 4 })
    let t := after (.statusWord (statusWrite1 (status (-662) true 5))) s
    (s.paths[(1 : Path)].hs.nFade = 2 + 1 ∧ s.rings[(0 : Fin 2)].mask.getLsbD 1 = false ∧ s.writeList = []) ∧
      (t.paths[(1 : Path)].aboveRecover = 0 ∧ t.paths[(1 : Path)].belowFade = 3) ∧
      t.writeList.head? = some (.record (s.changeReport 1 .up t.paths[(1 : Path)])) ∧ t.writeList.length = 2 := by
  decide +kernel

theorem test_witness_StatusTimersExpire :
    let s := withPath (fun x => { x with timer := some 7 })
    let late := s.setTb { s.tb with runNs := 50000007 }
    (late.paths[(1 : Path)].timer = some 7 ∧ 7 + late.paths[(1 : Path)].hs.timeout * 1000000 ≤ late.tb.runNs) ∧
      (s.paths[(1 : Path)].timer = some 7 ∧ s.tb.runNs < 7 + s.paths[(1 : Path)].hs.timeout * 1000000) ∧
      late.rings[(0 : Fin 2)].mask.getLsbD 1 = false ∧ (late.writeList.filter ListItem.isRecord).length < 8 := by
  decide +kernel

theorem test_witness_ProbationsEndAndFarEndConditionsLapse :
    let s : Nat → Nat → Option TxView → State := fun losses n v =>
      updating (fun x => { x with state := .probation, countdown := 1, updLosses := losses, rxCount := n, tx := v })
    let due := fun age => updating (fun x => { x with farEnd := some age })
    let past := fun age => withPath (fun x => { x with farEnd := some age })
    (∀ losses n v, (s losses n v).updateDue ∧ (s losses n v).paths[(1 : Path)].state = .probation ∧
      (s losses n v).paths[(1 : Path)].countdown = 1 ∧ (s losses n v).paths[(1 : Path)].updLosses = losses ∧
      (s losses n v).paths[(1 : Path)].rxCount = n ∧ (s losses n v).paths[(1 : Path)].tx = v ∧
      (s losses n v).paths[(1 : Path)].hs.lossDown = 32 ∧ (s losses n v).paths[(1 : Path)].hs.minSamples = 8) ∧
      (∀ age, (due age).updateDue ∧ (due age).paths[(1 : Path)].farEnd = some age ∧
        (past age).paths[(1 : Path)].farEnd = some age ∧ (past age).tb.boundaryDue = false) ∧
      bench.estimator.reportStale = 20 ∧
      (Machine.updateEvent false [] (s 32 8 none)).paths[(1 : Path)].lastCause = 9 ∧
      (Machine.updateEvent false [] (s 31 0 (some ⟨1, 1, 20⟩))).paths[(1 : Path)].state = .up ∧
      (Machine.updateEvent false [] (s 31 7 (some ⟨1, 1, 21⟩))).paths[(1 : Path)].countdown = 50 :=
  ⟨fun _ _ _ => ⟨⟨rfl, rfl⟩, rfl, rfl, rfl, rfl, rfl, rfl, rfl⟩, fun _ => ⟨⟨rfl, rfl⟩, rfl, rfl, rfl⟩, by decide +kernel⟩

theorem test_witness_CutEdgesCutEveryEnabledPath : cutting.cut.level = false ∧ 3 ≤ cutting.cut.run := by decide

theorem test_witness_FullSelectionTakesTheFirstCase :
    let rt : Choice → RouteRecord := fun c => { bench.routes[(2 : Route)] with chosen := c }
    let faded := inState .fading
    let up : State → Bool → List Path := fun s standby =>
      ((rt darkChoice).live.filter (fun c => c.standby == standby && s.paths[c.path].state == .up)).map Candidate.path
    bench.best (up bench false) = some 1 ∧
      (up faded false = [] ∧ up faded true = [3] ∧ (rt ⟨.single, some 1, none⟩).chosen.active = some 1 ∧
        faded.paths[(1 : Path)].state = .fading) ∧
      (up (inState .down) false = [] ∧ up (inState .down) true = [3]) ∧
      (up (faded.setPathRec 3 powerOnPath) true = []) := by decide +kernel

theorem test_witness_FullSelectionTakesTheFirstCase_reselection :
    let rt : Choice → RouteRecord := fun c => { bench.routes[(2 : Route)] with chosen := c }
    (inState .fading).reselection (rt ⟨.single, some 1, none⟩) 1 .up .fading =
        some (.activeFading, ⟨.mirror, some 1, some 3⟩) ∧
      bench.reselection (rt ⟨.mirror, some 1, some 3⟩) 1 .fading .up = some (.activeRecovered, ⟨.single, some 1, none⟩) ∧
      (inState .down).reselection (rt ⟨.fallback, some 3, none⟩) 1 .up .down = none ∧
      bench.reselection (rt darkChoice) 1 .probation .up = some (.candidateUp, ⟨.single, some 1, none⟩) ∧
      darkChoice ≠ bench.routes[(2 : Route)].chosen ∧
      (enterState 1 .down .lockLost bench).routes[(2 : Route)].chosen = ⟨.fallback, some 3, none⟩ := by decide +kernel

theorem test_witness_TargetsFollowTheMode :
    let probing : Health → Nat → State := fun h n =>
      (bench.setPathRec 3 { bench.paths[(3 : Path)] with state := h }).setRouteRec 2
        { bench.routes[(2 : Route)] with interval := n, countdown := 0, cursor := 1 }
    let search : State → List Health → Option (Path × Nat) := fun s hs =>
      searchFrom s.routes[(2 : Route)].live s.routes[(2 : Route)].cursor (fun c => c.path != 1 && hs.contains s.paths[c.path].state)
    (withChoice darkChoice).routes[(2 : Route)].chosen.mode = .dark ∧
      (withChoice ⟨.mirror, some 1, some 3⟩).routes[(2 : Route)].chosen = ⟨.mirror, some 1, some 3⟩ ∧
      (withChoice ⟨.fallback, some 3, none⟩).routes[(2 : Route)].chosen = ⟨.fallback, some 3, none⟩ ∧
      (probing .probation 0).routes[(2 : Route)].chosen = ⟨.single, some 1, none⟩ ∧
      (search (probing .probation 0) [.probation] = some (3, 0) ∧ search (probing .up 1) [.probation] = none) ∧
      (search (probing .up 1) [.up, .fading] = some (3, 0) ∧ search (probing .down 1) [.up, .fading] = none) ∧
      (0 < (probing .up 1).routes[(2 : Route)].interval ∧ (probing .up 1).routes[(2 : Route)].countdown = 0) ∧
      ¬ (0 < (probing .up 0).routes[(2 : Route)].interval) ∧
      (searchFrom [⟨1, false⟩, ⟨3, false⟩, ⟨5, true⟩] 1 (fun c => c.standby == false) = some (3, 2) ∧
        searchFrom [⟨1, false⟩, ⟨3, false⟩, ⟨5, true⟩] 2 (fun c => c.standby == false) = some (1, 1) ∧
        searchFrom [] 4 (fun _ => true) = none) := by decide +kernel

/-- Route 2 with two non-standby candidates, whose TX views give metrics. -/
def ranked (m n : Nat) : State :=
  ((bench.setRouteRec 2 { bench.routes[(2 : Route)] with live := [⟨1, false⟩, ⟨3, false⟩] }).setPathRec 1
    { bench.paths[(1 : Path)] with tx := some ⟨m, 0, 0⟩ }).setPathRec 3
      { bench.paths[(3 : Path)] with tx := some ⟨n, 0, 0⟩ }

theorem test_witness_ReRankNeedsMoreThanTheMargin :
    (ranked 1051 1000).routes[(2 : Route)].chosen = ⟨.single, some 1, none⟩ ∧
      ((ranked 1051 1000).best [3] = some 3 ∧ (ranked 1051 1000).metricOf 3 = some 1000 ∧
        (ranked 1051 1000).metricOf 1 = some 1051) ∧
      ((ranked 1050 1000).metricOf 1 = some 1050 ∧ (ranked 1050 1000).estimator.switchMargin = 50) ∧
      (rerank 2 (ranked 1051 1000)).routes[(2 : Route)].chosen = ⟨.single, some 3, none⟩ ∧
      rerank 2 (ranked 1050 1000) = ranked 1050 1000 := by decide +kernel

theorem test_witness_ReRankNeedsMoreThanTheMargin_metric :
    let views : Nat → Nat → State := fun txAge rxAge =>
      withPath (fun x => { x with tx := some ⟨1000, 3, txAge⟩, est := some 16015, jit := 80, rxAge := rxAge })
    bench.estimator.reportStale = 20 ∧ (views 20 0).metricOf 1 = some 1003 ∧ (views 21 20).metricOf 1 = some 1005 ∧
      (views 21 21).metricOf 1 = none ∧ bench.metricOf 1 = none := by decide +kernel

theorem test_witness_DeliveriesFallInTheirCases :
    emptyMerger.table.length = 64 ∧ emptyMerger.tracking = false ∧ merger1000.table.length = 64 ∧
      merger1000.tracking = true ∧ ((1001 : BitVec 24) - merger1000.newest).toInt = 1 ∧
      (((937 : BitVec 24) - merger1000.newest).toInt = -63 ∧
        merger1000.table[0]? = some ⟨true, 200, 0, 0, true⟩ ∧ merger1000.table[63]? = some ⟨true, 200, 103489800, 0, false⟩) ∧
      ((936 : BitVec 24) - merger1000.newest).toInt = -64 ∧ min 255 (merger1000.staleRun + 1) < merger1000.resyncCount ∧
      (let m : MergeRecord := { merger1000 with staleRun := 2 }; m.resyncCount ≤ min 255 (m.staleRun + 1)) := by
  decide +kernel

theorem test_witness_EachSequencePassesOnceInTheWindow :
    merger1000.table.length = 64 ∧ merger1000.holds 1000 ∧ merger1000.holds 938 ∧ merger1000.isResync 1001 = false ∧
      -63 ≤ distance (merger1000.take 1001 (at200 0) 0).1.newest 938 ∧
      distance (merger1000.take 1001 (at200 0) 0).1.newest 938 ≤ 0 := by
  unfold MergeRecord.holds
  decide +kernel

/-- A SNAPSHOT with one word left and a refusal record, with a refusal's offer at the arbiter. -/
def refusing (offered : Bool) : State :=
  { offering 31 .refusal with cu := ⟨.executing (command 0x11) (.writing [5] 0x108), 0, some ⟨1, 2, offered⟩⟩ }

theorem test_witness_TheOldestOfferIsAdmittedWhole :
    (offering 31 .report).occupied + 2 = 64 ∧ (offering 32 .report).occupied = 64 ∧
      coveredWord (0x90000000 - bench.pageBase : Addr).toNat [⟨6, 0xFF⟩] 17 = none ∧
      ((after .offerAdmit (refusing true)).offers.map Offer.source = [.snapshotWord] ∧
        (after .offerAdmit (refusing true)).cu.refusal = none) ∧
      ((after .offerAdmit (refusing false)).offers.map Offer.source = [.refusal] ∧
        (after .offerAdmit (refusing false)).cu.refusal = some ⟨1, 2, true⟩) := by decide +kernel

theorem test_witness_TheOldestOfferIsAdmittedWhole_waiting :
    let w : PortRequest := .write (write 1 0x80000000 [4]) true
    let s : State := { offering 31 (.agent 1 true false) with portWaiting := [w, w] }
    let t := after .offerAdmit s
    t.bus = [.ack 1] ∧ t.offers = [agentOffer 1 false [⟨0x80000000, [⟨4, 0xFF⟩], .agent 1⟩]] ∧ t.portWaiting = [w] := by
  decide +kernel

theorem test_witness_CommandsAreTakenOrRefusedBusy :
    coveredWord 0 (write 0 0x20000000 [0x410C]).beats 0 = some 0x410C ∧
      (commandOffered.offers = [⟨.agent 0 true true, [⟨commandOffered.pageBase, (write 0 0 [0x410C]).beats, .agent 0⟩]⟩] ∧
        commandOffered.cu.state = .idle ∧ commandOffered.cu.refusal = none) ∧
      (fetching 0x11 0 bench).pageWrite (write 0 0x20000000 [0x410C]) 0 ∧ (fetching 0x11 0 bench).cu.state ≠ .idle := by
  unfold State.pageWrite State.portFree inBlock
  decide +kernel

theorem test_witness_AcknowledgesAndConsumerIndexesAreTaken :
    bench.pageWrite (write 0 0x20000080 eight) 0x80 ∧ bench.pageWrite (write 0 0x200000B8 [1]) 0xB8 ∧
      bench.cu.refusal = none ∧ bench.cu.state.settled = true := by
  unfold State.pageWrite State.portFree inBlock
  decide +kernel

theorem test_witness_ReadsGoFirstEightTimes :
    (queued.queue = [⟨0x80000000, [⟨5, 0xFF⟩], .agent 1⟩] ∧ queued.readReady = []) ∧
      (readReady 7).fairCount < 8 ∧ ({ readReady 9 with queue := [] } : State).queue = [] ∧
      (8 ≤ (readReady 8).fairCount ∧
        ∀ x ∈ (readReady 8).readReady, overlaps x ⟨0x80000000, [⟨5, 0xFF⟩], .agent 1⟩ = false) ∧
      [(⟨.agent 0, 0x80000000, [0xFF]⟩ : MemRead)].find? (fun y => overlaps y ⟨0x80000000, [⟨5, 0xFF⟩], .agent 1⟩) =
        some ⟨.agent 0, 0x80000000, [0xFF]⟩ := by decide +kernel

theorem test_witness_ReadDataReturnsInOrder :
    reading.readIssued = [⟨.agent 0, 0x80000000, [0xFF]⟩] ∧ reading.reads = [⟨0, 1, 1, true, true, none, none⟩] ∧
      (let s : State := { reading with reads := ⟨1, 2, 1, true, true, none, none⟩ :: reading.reads }
       s.reads = ⟨1, 2, 1, true, true, none, none⟩ :: reading.reads ∧
         (⟨0, 1, 1, true, true, none, none⟩ : ReadRec) ∈ reading.reads) := by decide +kernel

/-- A split read whose second half has its answer, an error, and whose first half memory answers next. -/
def splitReading : State :=
  { reading with
    reads :=
      [⟨0, 1, 1, false, false, none, none⟩, ⟨1, 1, 1, false, true, none, some (Vector.replicate 8 9, true)⟩] }

theorem test_witness_ReadDataReturnsInOrder_halves :
    (splitReading.reads.map ReadRec.id = [0, 1] ∧ splitReading.reads.map (fun x => x.answer.isSome) = [false, true]) ∧
      (after (.readReturn (Vector.replicate 8 7) false) splitReading).bus =
        [.readBeat 1 7 false false, .readBeat 1 9 true true] ∧
      (after (.readReturn (Vector.replicate 8 7) false) splitReading).reads = [] := by decide +kernel

theorem test_witness_RecordsArePlacedOrDropped :
    (withRing (smallRing 2 1)).offers.any Offer.isReport = false ∧
      ((smallRing 2 1).position ≠ (smallRing 2 1).perGroup ∧
        (smallRing 2 1).bases.toList[(smallRing 2 1).group]? = some (some 0x00100000)) ∧
      (smallRing 2 2).position = (smallRing 2 2).perGroup ∧ emptyRing.bases.toList[emptyRing.group]? = some none ∧
      (record .slotEvent).kind.urgent = false := by decide +kernel

theorem test_witness_RecordsArePlacedOrDropped_urgent :
    let s : State := { withRing (smallRing 2 2) with writeList := [.record (record .pathState), .record (record .slotEvent)] }
    let t := after .recordPlacement s
    (t.rings[(0 : RingId)].drops, t.rings[(0 : RingId)].pending, t.writeList) = (2, true, []) ∧
      t.offers.map (fun o => entriesOf o.writes) = [2] := by decide +kernel

theorem test_witness_SubmissionsAreMaskedDroppedOrListed :
    (withRing { emptyRing with mask := 0x10 }).rings[(record .slotEvent).kind.ring].mask.getLsbD (record .slotEvent).kind.code
        = true ∧
      bench.rings[(record .slotEvent).kind.ring].mask.getLsbD (record .slotEvent).kind.code = false ∧
      (bench.writeList.filter ListItem.isRecord).length < 8 ∧ 8 ≤ (atBounds.writeList.filter ListItem.isRecord).length ∧
      (record .pathState).kind.urgent = true ∧
      ((submit (record .pathState) atBounds).rings[(0 : RingId)].pending = true ∧
        (submit (record .pathState) atBounds).writeList = atBounds.writeList ++ [.status]) := by decide +kernel

theorem test_witness_TimeAdvancesByOneIncrement : (withTb (fun b => { b with rate := -50000 })).nothingDue := by
  unfold State.nothingDue
  decide +kernel

theorem test_witness_FilteredEdgesTakeEffect :
    (∀ level, (withTb (fun b => { b with refp := ⟨level, 3⟩ })).tb.refp = ⟨level, 3⟩) ∧
      (withTb (fun b => { b with refp := ⟨false, 2⟩ })).tb.refp.run < 3 ∧
      ({ bench with cut := ⟨true, 3⟩ } : State).cut = ⟨true, 3⟩ ∧ ({ bench with cut := ⟨true, 2⟩ } : State).cut.run < 3 :=
  ⟨fun _ => rfl, by decide, rfl, by decide⟩

/-- A capture not yet used, so many ns into its second, in a reference state and with a stray run. -/
def captured (ref : RefState) (ns stray : Nat) : State :=
  withTb (fun b =>
    { b with ref := ref, strayRun := stray, current := some ⟨0, ns, 5, .refp, false⟩, prevError := some 3, lastAccepted := some 0 })

theorem test_witness_CapturesAreEvaluatedByTheReferenceState :
    (∀ ref ns stray, (captured ref ns stray).tb.current = some ⟨0, ns, 5, .refp, false⟩ ∧
      (captured ref ns stray).tb.ref = ref ∧ (captured ref ns stray).tb.disc = defaultDiscipline) ∧
      (phaseError ⟨0, 1001, 5, .refp, false⟩ = 1001 ∧ phaseError ⟨0, 999999000, 5, .refp, false⟩ = -1000) ∧
      (phaseError ⟨0, 401, 5, .refp, false⟩).natAbs > 4 * defaultDiscipline.lockWindow ∧
      (phaseError ⟨0, 400, 5, .refp, false⟩).natAbs ≤ 4 * defaultDiscipline.lockWindow ∧
      (phaseError ⟨0, 10000, 5, .refp, false⟩).natAbs ≤ defaultDiscipline.pulseWindow ∧
      defaultDiscipline.pulseWindow < (phaseError ⟨0, 10001, 5, .refp, false⟩).natAbs ∧
      ((captured .locked 10001 1).tb.strayRun + 1 < 3 ∧ 3 ≤ (captured .holdover 10001 2).tb.strayRun + 1) :=
  ⟨fun _ _ _ => ⟨rfl, rfl, rfl⟩, by decide +kernel⟩

/-- A watch at a run time. -/
def watching (ref : RefState) (run : Nat) : State := withTb (fun b => { b with ref := ref, runNs := run })

theorem test_witness_TheWatchExpires :
    (∀ ref run, (watching ref run).tb.ref = ref ∧ (watching ref run).tb.runNs = run ∧ (watching ref run).tb.watchMark = 0 ∧
      (watching ref run).tb.disc.holdoverLimit = 600) ∧
      0 + 1100000000 ≤ 1100000000 ∧ 1099999999 < 0 + 1100000000 ∧ 0 + 600 * 1000000000 ≤ 600000000000 ∧
      599999999999 < 0 + 600 * 1000000000 := ⟨fun _ _ => ⟨rfl, rfl, rfl, rfl⟩, by decide⟩

theorem test_witness_BoundariesMakeUpdateAndStatsEvents :
    ∀ due repetition stats,
      let s := withTb (fun b => { b with boundaryDue := due, repetition := repetition, stats := stats })
      s.tb.boundaryDue = due ∧ s.tb.repetition = repetition ∧ s.tb.stats = stats := fun _ _ _ => ⟨rfl, rfl, rfl⟩

theorem test_stats_events_report_paths_and_routes :
    let kinds := fun (s : State) => s.writeList.map (fun x => match x with | .record r => some (r.kind, r.source) | .status => none)
    kinds (Machine.updateEvent true [] bench) =
        [some (.pathRxStats, 1), some (.pathTxStats, 1), some (.pathRxStats, 3), some (.pathTxStats, 3),
         some (.routeStats, 2)] ∧
      kinds (Machine.updateEvent false [] bench) = [] := by decide +kernel

theorem test_stats_fields :
    let s := withPath (fun x =>
      { x with
        est := some 1615, period := { x.period with samples := 3, sum := 10, lateCopies := 2, marginSum := -7, dwellSum := 9 } })
    s.pathReports 1 |>.map Report.fields =
      [[3, 0, 0, 0, 3, 100, 0, 0, 0, 0, 2, -4], [0, 0, 0, 0, 0, 0, 0, 0, 255]] := by decide +kernel

theorem test_witness_UpdateEventsInstallAgeAndRestart :
    (bench.setWindowEntry 0 ⟨emptyWindow, bench.windows[(0 : Fin 8)].live, true⟩).windows[(0 : Fin 8)].pending = true ∧
      bench.windows[(0 : Fin 8)].pending = false ∧
      (let s := withPath (fun x => { x with state := .cut, set := { x.set with autoRelease := true } })
       s.paths[(1 : Path)].state = .cut ∧ s.paths[(1 : Path)].set.autoRelease = true ∧ s.cut.level = false ∧
         (Machine.updateEvent false [] s).paths[(1 : Path)].lastCause = 18) ∧
      (bench.routes[(0 : Route)].live = [] ∧ bench.routes[(0 : Route)].pending = false ∧
        bench.routes[(0 : Route)].chosen = ⟨.dark, none, none⟩) := by decide +kernel

theorem test_witness_UpdateEventsInstallAgeAndRestart_routes :
    let s := bench.setRouteRec 2
      { bench.routes[(2 : Route)] with pending := true, preload := [3, 1], preloadInterval := 5, countdown := 2, cursor := 1 }
    (s.routes[(2 : Route)].pending = true ∧ bench.routes[(2 : Route)].pending = false) ∧
      (Machine.updateEvent false [] s).routes[(2 : Route)] =
        { bench.routes[(2 : Route)] with
          live := [⟨3, false⟩, ⟨1, false⟩], preload := [3, 1], preloadInterval := 5, interval := 5, countdown := 4
          chosen := ⟨.single, some 3, none⟩ } ∧
      (Machine.updateEvent false [] (withChoice ⟨.fallback, some 3, none⟩)).routes[(2 : Route)].chosen =
        ⟨.single, some 1, none⟩ ∧
      ((updateSchedule []).take 2 = [.pathStats, .routes] ∧ (updateSchedule [.routes, .release]).take 2 = [.routes, .pathStats]) := by
  decide +kernel

theorem test_witness_fetched (opcode : BitVec 8) (lockLevel : Nat) :
    (fetching opcode lockLevel bench).fetched (command opcode) ∧ (command opcode).opcode = opcode ∧
      (fetching opcode lockLevel bench).cu.lockLevel = lockLevel := ⟨⟨rfl, rfl, rfl, rfl⟩, rfl, rfl⟩

theorem test_witness_FrozenCommandsChangeNothing :
    (fetching 0x01 1 bench).fetched (command 0x01) ∧ 1 ≤ (fetching 0x01 1 bench).cu.lockLevel ∧
      2 ≤ (fetching 0x05 2 bench).cu.lockLevel ∧ 3 ≤ (fetching 0x0A 3 bench).cu.lockLevel ∧
      (argNat (args 7 1 0 0 0 0 0) 1 = 7 ∧ argNat (args 7 1 0 0 0 0 0) 2 = 1) ∧ argNat (args 2 0 0 0 0 0 0) 1 = 2 := by
  refine ⟨(test_witness_fetched 0x01 1).1, ?_⟩
  decide +kernel

/-- A command on the bench that is answered BAD_ARGUMENT at an index, with a value word. -/
def refusedAt (opcode : BitVec 8) (lockLevel : Nat) (c : Instr) (index : Nat) (value : Word) : Prop :=
  exec c (fetching opcode lockLevel bench) =
    .next ((fetching opcode lockLevel bench).working.answered (command opcode) ⟨.badArgument, index, value⟩)

theorem test_witness_BadCommandsAndArgumentsAreRefused :
    (command 0).opcode = 0 ∧ 0x12 < (command 0x13).opcode.toNat ∧
      refusedAt 0x01 0 (.setAgent (args 16 0 0 0 0 0 0)) 1 0 ∧ refusedAt 0x01 0 (.setAgent (args 0 2 8 0 0 0 0)) 2 0 ∧
      refusedAt 0x01 0 (.setAgent (args 0 3 8 0 0 0 0)) 3 0 ∧ refusedAt 0x03 0 (.setTime (args 0 1000000000 0 0 0 0 0)) 2 0 ∧
      refusedAt 0x05 1 (.setLayout (args 8191 256 0 0 0 0 0)) 1 0 ∧ refusedAt 0x08 1 (.setRing (args 2 0 0 0 0 0 0)) 1 0 ∧
      refusedAt 0x09 1 (.setRingGroup (args 1 16 1 0 0 0 0)) 2 0 ∧ refusedAt 0x09 1 (.setRingGroup (args 1 15 32 0 0 0 0)) 3 0 ∧
      refusedAt 0x0A 2 (.setHealth (args 8 0 0 0 0 0 0)) 1 0 ∧ refusedAt 0x0D 3 (.pathAdminDisable (args 7 4 0 0 0 0 0)) 2 0 ∧
      refusedAt 0x10 0 (.generateCut (args 3 0 0 0 0 0 0)) 1 0 ∧ refusedAt 0x11 3 (.snapshot (args 3 2 0 0 0 0 0)) 2 0 :=
  ⟨rfl, by decide, rfl, rfl, rfl, rfl, rfl, rfl, rfl, rfl, rfl, rfl, rfl, rfl⟩

theorem test_witness_BadCommandsAndArgumentsAreRefused_windows_and_lists :
    refusedAt 0x06 1 (.setWindow (args 0 0x20500 0 0 0 0 0)) 3 0 ∧ refusedAt 0x06 1 (.setWindow (args 0 0x90400 0 0 0 0 0)) 4 0 ∧
      refusedAt 0x06 1 (.setWindow (args 0 0x10000 0 0 0 0 0)) 4 0 ∧ refusedAt 0x06 1 (.setWindow (args 0 0x4020000 1 0 0 0 0)) 5 0 ∧
      refusedAt 0x06 1 (.setWindow (args 0 0x8000200 1 0 0 0 0)) 5 0 ∧
      refusedAt 0x06 1 (.setWindow (args 7 0x3020000 0x40010000 0 0 0 0)) 7 0 ∧
      refusedAt 0x07 1 (.setPath (args 7 3 0 0 0 0 0)) 2 0 ∧ refusedAt 0x07 1 (.setPath (args 7 2 0x00080000 0 0 0 0)) 7 0 ∧
      refusedAt 0x0C 2 (.setRoute (args 3 5 0 0 0 0 0)) 2 0 ∧ refusedAt 0x0C 2 (.setRoute (args 3 4 0x01080108 0 0 0 0)) 3 0 ∧
      refusedAt 0x0C 2 (.setRoute (args 3 4 0x01020100 0 0 0 0)) 6 0 :=
  ⟨rfl, rfl, rfl, rfl, rfl, rfl, rfl, rfl, rfl, rfl, rfl⟩

theorem test_witness_AgentAndTimeCommandsTakeEffect :
    (argNat (args 15 3 7 0 0 0 0) 1 = (15 : Fin 16).val ∧ argNat (args 15 3 7 0 0 0 0) 2 = 3 ∧
      argNat (args 15 3 7 0 0 0 0) 3 = (7 : Fin 8).val) ∧
      argNat (args 5 999999999 0 0 0 0 0) 2 < 1000000000 ∧
      ((fetching 0x04 0 (withTb (fun b => { b with ref := .holdover, runNs := 1000000000 }))).tb.ref = .holdover ∧
        0 + max 1 (min (argNat (args 0 0 0 0 0 0 0) 7) 65535) * 1000000000 ≤ 1000000000) ∧
      (after (.setDiscipline (args 1000 100 4 10000 0x801 20000 600)) (fetching 0x04 0 bench)).offers =
        ((fetching 0x04 0 bench).working.answered (command 0x04) ⟨.doneClamped, 6, 0⟩).offers := by decide +kernel

theorem test_witness_AgentAndTimeCommandsTakeEffect_records :
    let s := fetching 0x04 0 (withTb (fun b =>
      { b with rate := -20000, ref := .holdover, runNs := 1000000000, overcapture := true }))
    let t := after (.setDiscipline (args 1000 100 4 10000 0x102 100 1)) s
    t.writeList.map (fun x => match x with | .record r => (r.cause.toNat, r.fields.getD 0 9, r.fields.getD 4 9) | .status => (0, 0, 0)) =
        [(7, 3, 1), (5, 0, 0)] ∧ t.tb.ref = .free := by decide +kernel

theorem test_witness_LayoutAndWindowCommandsTakeEffect :
    32 * argNat (args 8192 256 0 0 0 0 0) 2 ≤ argNat (args 8192 256 0 0 0 0 0) 1 ∧
      (fetching 0x05 1 bench).cu.lockLevel < 2 ∧
      (let a := args 0 0x2020001 0x48000000 0 0 0 0
       let w : Window := ⟨true, .routeTx, 0x48000000, 2, 2, 0, false⟩
       w.enabled = (argWord a 2).getLsbD 0 ∧ ((argWord a 2).extractLsb' 8 8).toNat = 0 ∧
         ((argWord a 2).extractLsb' 16 8).toNat = w.sizeExp.val ∧ w.index = (argWord a 2).extractLsb' 24 8 ∧
         w.swap = (argWord a 2).getLsbD 32 ∧ w.base = (argWord a 3).setWidth 32 ∧ w.transBase = (argWord a 4).setWidth 32 ∧
         w.size = bench.layout.section ∧ w.base.toNat % w.size = 0) ∧
      ((bench.setRouteRec 0 { emptyRoute with pending := true, preload := [3] }).routes[(0 : Route)].pending = true ∧
        bench.routes[(0 : Route)].pending = false) := by decide +kernel

theorem test_witness_LayoutAndWindowCommandsTakeEffect_records :
    let s := fetching 0x05 0 (withSlots fourSlots)
    (after (.setLayout (args 65536 256 0 0 0 0 0)) s).writeList = (s.abandonReports 2).map ListItem.record ∧
      (s.abandonReports 2).map (fun r => r.fields.head?) = [some 5, some 6, some 7, some 8] ∧
      (let u := fetching 0x0E 0 (bench.setRouteRec 0 { emptyRoute with pending := true, preload := [3] })
       let t := after (.apply (args 0 0 0 0 0 0 0)) u
       (t.routes[(0 : Route)].modeChanges, t.routes[(0 : Route)].preload, t.writeList.length) = (1, [3], 1)) := by
  decide +kernel

theorem test_witness_PathCommandsTakeEffect :
    (let a := args 1 0x102 0x02000000 0x03000040 65535 1000 0
     argNat a 1 = (1 : Fin 8).val ∧ ((argWord a 2).extractLsb' 0 8).toNat = 2 ∧
       ((argWord a 3).setWidth 32 : BitVec 32).toNat % (4 * bench.layout.section) = 0 ∧
       (argWord a 2).getLsbD 8 ≠ bench.paths[(1 : Path)].set.standby) ∧
      (fetching 0x0A 2 bench).cu.lockLevel < 3 ∧
      (let s := withPath (fun x => { x with timer := some 0 })
       s.paths[(1 : Path)].timer = some 0 ∧ s.tb.runNs < 0 + 1 * 1000000 ∧
         0 + 1 * 1000000 ≤ (s.setTb { s.tb with runNs := 1000000 }).tb.runNs) ∧
      max 1000 (min (argNat (args 6 4 4 1000 20 50 1) 4) 500000000) < bench.estimator.maxPlausible ∧
      (let s := (withPath (fun x => { x with timer := some 0 }))
       let t := after (.setHealth (args 1 0xFDA8FD76FD12 0x00140503 1 0x00200004 0x0832 0))
         (fetching 0x0A 0 (s.setTb { s.tb with runNs := 1000000 }))
       t.paths[(1 : Path)].state = .down ∧ t.paths[(1 : Path)].lastCause = 8 ∧ t.paths[(1 : Path)].hs.timeout = 1) := by
  decide +kernel

theorem test_witness_RouteAndRingCommandsTakeEffect :
    (let a := args 1 4 0x06070300 255 64 0 0
     let list : List (Fin 8) := [0, 3, 7, 6]
     argNat a 1 = (1 : Fin 4).val ∧ argNat a 2 = list.length ∧ list.length ≤ 4 ∧ list.Nodup ∧
       ∀ i < 4, ∀ p : Fin 8, list[i]? = some p → ((argWord a 3).extractLsb' (8 * i) 8).toNat = p.val) ∧
      argNat (args 1 16 256 16 0 0 0) 1 = (1 : Fin 2).val ∧
      (argNat (args 1 15 0x00100040 0 0 0 0) 2 = (15 : Fin 16).val ∧
        ((argWord (args 1 15 0x00100040 0 0 0 0) 3).setWidth 32 : BitVec 32).toNat % 64 = 0) := by decide +kernel

theorem test_witness_PathAdminFollowsTheState :
    ∀ h ∈ [Health.disabled, .probation, .up, .fading, .down, .cut],
      (fetching 0x0D 2 (inState h)).fetched (command 0x0D) ∧ (fetching 0x0D 2 (inState h)).paths[(1 : Path)].state = h ∧
        (fetching 0x0D 2 (inState h)).cu.lockLevel < 3 ∧ argNat (args 1 3 0 0 0 0 0) 1 = (1 : Fin 8).val ∧
        argNat (args 1 3 0 0 0 0 0) 2 = 3 := by
  unfold State.fetched
  decide +kernel

theorem test_witness_RaiseLockAndGenerateTakeEffect :
    (3 < argNat (args 4 0 0 0 0 0 0) 1 ∧ argNat (args 3 0 0 0 0 0 0) 1 ≤ 3 ∧
      argNat (args 1 0 0 0 0 0 0) 1 < (fetching 0x0F 2 bench).cu.lockLevel ∧
      (fetching 0x0F 3 bench).cu.lockLevel ≤ argNat (args 3 0 0 0 0 0 0) 1) ∧
      (fetching 0x10 0 bench).cu.lockLevel = 0 ∧ argNat (args 2 0 0 0 0 0 0) 1 = 2 := by decide +kernel

theorem test_witness_SnapshotAndRestartTakeTheirTime :
    (∀ object ∈ [[argNat (args 0 0 0 0 0 0 0) 1, 37], [argNat (args 1 7 0 0 0 0 0) 1, 74], [argNat (args 3 1 0 0 0 0 0) 1, 45]],
      object ∈ [[0, (timeBaseWords bench.tb).length], [1, (bench.pathWords 7).length], [3, (bench.ringWords 1).length]]) ∧
      (fetching 0x12 0 bench).cu.lockLevel = 0 ∧
      (drained.cu.state = .executing ⟨0x12, 0x41, 9⟩ .draining ∧ drained.queue = [] ∧ drained.offers = [] ∧
        drained.reads = [] ∧ drained.portWaiting = [] ∧ drained.cu.refusal = none) ∧
      (let s : State :=
         { offering 31 .snapshotWord with cu := ⟨.executing (command 0x11) (.writing [] (0x100 + 8 * 45)), 0, none⟩ }
       s.offers.tail.any Offer.isCommandUnit = false ∧ s.cu.refusal = none ∧
         s.occupied + entriesOf (s.offers.flatMap Offer.writes) = 64 ∧
         (after .offerAdmit s).offers = (s.answered (command 0x11) ⟨.done, 0, 45⟩).offers.drop 1) ∧
      bench.mergers[(3 : Route)].table.length = 64 ∧
      (let s : State := { drained with reads := reading.reads }; s.reads ≠ []) := by decide +kernel

end Sys2Proof.Tests
end

/-! ## Writes of a frame engine to a route window

What a write to a route window comes to at a free port, and the payload write to a listed slot (R22, R25, R30). -/

namespace Sys2Proof.Machine

/-! ### Ready forced to 0 -/

/-- A field's bits are the number's, and every other bit stays. -/
theorem getLsbD_setField (w : Word) (lo len v : Nat) {i : Nat} (hi : i < 64) :
    (setField w lo len v).getLsbD i = if lo ≤ i ∧ i < lo + len then v.testBit (i - lo) else w.getLsbD i := by
  simp only [setField, BitVec.getLsbD_or, BitVec.getLsbD_and, BitVec.getLsbD_not, BitVec.getLsbD_shiftLeft,
    BitVec.getLsbD_ofNat, Nat.testBit_two_pow_sub_one, Nat.testBit_mod_two_pow, hi, decide_true, Bool.true_and]
  by_cases hlo : i < lo
  · have below : ¬ lo ≤ i := by omega
    simp [hlo, below]
  · have above : lo ≤ i := by omega
    have bounded : i - lo < 64 := by omega
    have inField : i < lo + len ↔ i - lo < len := by omega
    by_cases hlen : i - lo < len <;> simp [hlo, above, bounded, inField, hlen]

/-- Ready is bit 16 of the commit word, and clearing it moves no other bit (R80). -/
theorem getLsbD_clearReady (w : Word) {i : Nat} (hi : i < 64) :
    (clearReady w).getLsbD i = (w.getLsbD i && i != 16) := by
  unfold clearReady
  rw [getLsbD_setField w 16 1 0 hi]
  by_cases h : i = 16
  · simp [h]
  · have outside : ¬ (16 ≤ i ∧ i < 16 + 1) := by omega
    simp [h, outside]

/-- A write that begins above word 0 keeps its beats (R22). -/
theorem forceReady_of_ne_zero {off : Nat} (h : off / 8 ≠ 0) (beats : List Beat) : forceReady off beats = beats := by
  unfold forceReady
  split
  · contradiction
  · rfl

/-- A write that begins at word 0 may lose ready in its first beat, where it enables ready's byte (R22). -/
theorem forceReady_cons {off : Nat} (h : off / 8 = 0) (b : Beat) (bs : List Beat) :
    forceReady off (b :: bs) = (if b.en.getLsbD 2 then ⟨clearReady b.data, b.en⟩ else b) :: bs := by
  unfold forceReady
  rw [h]
  rfl

/-- A write that does not write ready keeps its beats (R22). -/
theorem forceReady_unchanged {off : Nat} {b : Beat} (h : off / 8 ≠ 0 ∨ b.en.getLsbD 2 = false) (bs : List Beat) :
    forceReady off (b :: bs) = b :: bs := by
  by_cases h0 : off / 8 = 0
  · have hen : b.en.getLsbD 2 = false := h.resolve_left (not_not_intro h0)
    rw [forceReady_cons h0, hen]
    rfl
  · exact forceReady_of_ne_zero h0 _

/-! ### The way to the Steering Unit -/

/-- A PAYLOAD_WRITE is presented at the Agent Port. -/
theorem exec_payloadWrite (w : WriteReq) (s : State) : exec (.payloadWrite w) s = .next (presentWrite w s.quiet) := rfl

/-- The Window Decoder hands a frame engine's write to a route window to the Steering Unit (R13). -/
theorem acceptWrite_routeTx_frameEngine {s : State} {w : WriteReq} {win : Window} {offset : Nat} (acks : Bool)
    (hrole : s.agents[w.tag].role = .frameEngine) (hkind : win.kind = .routeTx)
    (hwin : s.classify w.addr = .window win offset) :
    acceptWrite w acks s = steerWrite ⟨win.route, offset, win.swap, w.tag, w.beats, acks⟩ s := by
  unfold acceptWrite
  simp only [hwin, hkind, hrole, if_true]

/-- So at a free port, for a write that is not split. -/
theorem presentWrite_routeTx_frameEngine {s : State} {w : WriteReq} {win : Window} {offset : Nat}
    (h : s.writeTo w .frameEngine .routeTx win offset) :
    presentWrite w s.quiet =
      (steerWrite ⟨win.route, offset, win.swap, w.tag, w.beats, true⟩ (s.quiet.setWaiting [.write w true])).setWaiting [] := by
  obtain ⟨hfree, hblock, hrole, hkind, hwin⟩ := h
  rw [presentWrite_free w s hfree hblock]
  congr 1
  exact acceptWrite_routeTx_frameEngine true hrole hkind hwin

/-- An offer that a request at a free port makes of the state it finds is all that the request leaves (R2). -/
theorem offerWrites_free {s : State} (h : s.portWaiting = []) (tag : Tag) (managed : Bool) (ws : List MemWrite)
    (qs : List PortRequest) :
    (offerWrites tag true managed ws (s.quiet.setWaiting qs)).setWaiting [] = s.offered tag managed ws :=
  setWaiting_nil (s.offered tag managed ws) h

/-! ### Payload writes -/

/-- A write whose word 0 is no commit is a payload write (R21). -/
theorem steerWrite_of_not_isCommit {s : State} {w : RouteWrite} (h : isCommit (s.slotOffset w.offset) w.beats = false) :
    steerWrite w s = steerPayload w s := by
  unfold isCommit at h
  unfold steerWrite
  split
  next word hword =>
    have hready : readyBit word = false := by simpa only [hword] using h
    simp [hready]
  next => rfl

/-- A payload write to a listed slot asks the Route Selector nothing: the record names its paths (R25). -/
theorem steerPayload_listed {s : State} {w : RouteWrite} {o : OpenSlot}
    (h : s.openSlot w.route (s.slotOf w.offset) = some o) :
    steerPayload w s = offerWrites w.tag w.acks false (s.payloadCopies w o.binding) s := by
  unfold steerPayload
  rw [h]

/-- A payload write to a listed slot, at a free port, comes to one offer of its copies (R25, R30). -/
theorem exec_payloadWrite_listed {s : State} {w : WriteReq} {win : Window} {offset : Nat} {o : OpenSlot}
    (hw : s.writeTo w .frameEngine .routeTx win offset) (hpayload : isCommit (s.slotOffset offset) w.beats = false)
    (ho : s.openSlot win.route (s.slotOf offset) = some o) :
    exec (.payloadWrite w) s =
      .next (s.offered w.tag false
        (s.payloadCopies ⟨win.route, offset, win.swap, w.tag, w.beats, true⟩ o.binding)) := by
  have ⟨⟨_, hwaiting⟩, _⟩ := hw
  rw [exec_payloadWrite, presentWrite_routeTx_frameEngine hw, steerWrite_of_not_isCommit hpayload, steerPayload_listed ho,
    offerWrites_free hwaiting]
  rfl

/-- Settles O14: the decoder hands the write to the Steering Unit, which takes the paths from the record; of the data
only ready can change. -/
theorem payloadFollowsTheSlotsRecord : Obligations.PayloadFollowsTheSlotsRecord := by
  refine ⟨?copies, fun off b bs => ⟨fun h => forceReady_unchanged h bs, ?ready⟩⟩
  case copies =>
    intro s w win offset o hw hpayload ho
    exact exec_payloadWrite_listed hw hpayload ho
  case ready =>
    intro hoff hen
    refine ⟨clearReady b.data, ?_, fun i hi => getLsbD_clearReady b.data hi⟩
    rw [forceReady_cons hoff, if_pos hen]

end Sys2Proof.Machine

/-! ## What a receive commit brings its path

The delay of a stamp and a reading (R86), and what the two deliveries of a receive commit move in the path's record: the
delay sample (R87 to R91), the report-back word (R94, R111), the sequence check (R90), and the Arrival Merger's counts
(R150). Each moves a part of the record of its own, so the order of the deliveries does not matter to any of them. -/

namespace Sys2Proof.Machine

/-! ### The delay -/

/-- A difference modulo 2^27 read as signed, from the two numbers (R86). -/
theorem toInt_sub_27 (a b : BitVec 27) :
    (a - b).toInt =
      let diff := (a.toNat + 134217728 - b.toNat) % 134217728
      if 67108864 ≤ diff then (diff : Int) - 134217728 else diff := by
  have hb := b.isLt
  have hdiff : (a - b).toNat = (a.toNat + 134217728 - b.toNat) % 134217728 := by
    rw [BitVec.toNat_sub]
    omega
  rw [BitVec.toInt_eq_toNat_cond, hdiff]
  dsimp only
  split <;> split <;> omega

/-- Settles O27: the model's 27-bit difference is the statement's modular one. -/
theorem delayArithmetic : Obligations.DelayArithmetic := by
  intro r stamp
  unfold sinceStamp
  rw [toInt_sub_27, BitVec.toNat_setWidth]
  rfl

/-! ### The parts of a path record -/

/-- What the sequence check moves (R90). -/
structure SequencePart where
  expected : Option (BitVec 16)
  outOfOrder : Nat
  updLosses : Nat
  losses : Nat

/-- What a delay sample moves (R88, R89, R91). -/
structure SamplePart where
  farEpoch : Option (BitVec 2)
  nearEpoch : Option (BitVec 2)
  est : Option Nat
  jit : Nat
  rxCount : Nat
  rxAge : Nat
  discarded : Nat
  samples : Nat
  minimum : Option Nat
  maximum : Option Nat
  sum : Nat

/-- What a report-back word moves (R94, R111). -/
structure ReportBackPart where
  tx : Option TxView
  reportBacks : Nat
  farEnd : Option Nat
  state : Health
  lastCause : Nat

/-- What the Arrival Merger hands a path (R150). -/
structure MergerPart where
  wins : Nat
  lateCopies : Nat
  marginSum : Int

/-- The record with what the sequence check moves replaced. -/
def PathRecord.withSequence (x : PathRecord) (c : SequencePart) : PathRecord :=
  { x with
    expected := c.expected, outOfOrder := c.outOfOrder, updLosses := c.updLosses
    period := { x.period with losses := c.losses } }

/-- The record with what a delay sample moves replaced. -/
def PathRecord.withSample (x : PathRecord) (c : SamplePart) : PathRecord :=
  { x with
    farEpoch := c.farEpoch, nearEpoch := c.nearEpoch, est := c.est, jit := c.jit, rxCount := c.rxCount, rxAge := c.rxAge
    period :=
      { x.period with
        samples := c.samples, discarded := c.discarded, minimum := c.minimum, maximum := c.maximum, sum := c.sum } }

/-- The record with what a report-back word moves replaced; a change of state clears the three counters (R112). -/
def PathRecord.withReportBack (x : PathRecord) (c : ReportBackPart) : PathRecord :=
  { x with
    tx := c.tx, farEnd := c.farEnd, state := c.state, lastCause := c.lastCause
    belowFade := if c.state = x.state then x.belowFade else 0
    belowDown := if c.state = x.state then x.belowDown else 0
    aboveRecover := if c.state = x.state then x.aboveRecover else 0
    period := { x.period with reportBacks := c.reportBacks } }

/-- The record with what the Arrival Merger hands a path replaced. -/
def PathRecord.withMerger (x : PathRecord) (c : MergerPart) : PathRecord :=
  { x with period := { x.period with wins := c.wins, lateCopies := c.lateCopies, marginSum := c.marginSum } }

/-- The parts are disjoint: the merger's counts may be replaced before the Path Monitor's parts or after them (log 8). -/
theorem withMerger_comm (x : PathRecord) (a : SamplePart) (b : ReportBackPart) (c : SequencePart) (d : MergerPart) :
    (((x.withMerger d).withSample a).withReportBack b).withSequence c =
      (((x.withSample a).withReportBack b).withSequence c).withMerger d := rfl

/-! ### The sequence check -/

/-- The sequence part after the check of `seq` on a record: no sequence expected, in order or a gap, or behind (R90). -/
def SequencePart.Follows (c : SequencePart) (seq : BitVec 16) (x : PathRecord) : Prop :=
  (x.expected = none → c.expected = some (seq + 1) ∧ c.updLosses = x.updLosses ∧ c.losses = x.period.losses ∧
    c.outOfOrder = x.outOfOrder) ∧
  (∀ next, x.expected = some next → (seq - next).toNat ≤ 32767 →
    c.expected = some (seq + 1) ∧ c.updLosses = min 4294967295 (x.updLosses + (seq - next).toNat) ∧
      c.losses = min 4294967295 (x.period.losses + (seq - next).toNat) ∧ c.outOfOrder = x.outOfOrder) ∧
  (∀ next, x.expected = some next → 32768 ≤ (seq - next).toNat →
    c.expected = some next ∧ c.updLosses = x.updLosses ∧ c.losses = x.period.losses ∧
      c.outOfOrder = min 65535 (x.outOfOrder + 1))

/-- A count that saturates at 2^32 − 1, with the bound in front. -/
theorem sat32_eq (n : Nat) : sat32 n = min 4294967295 n := Nat.min_comm ..

/-- A count that saturates at 65,535, with the bound in front. -/
theorem sat16_eq (n : Nat) : sat16 n = min 65535 n := Nat.min_comm ..

/-- The sequence check moves the sequence part alone (R90). -/
theorem takeSequence_follows (seq : BitVec 16) (x : PathRecord) :
    ∃ c : SequencePart, takeSequence seq x = x.withSequence c ∧ c.Follows seq x := by
  cases hx : x.expected with
  | none =>
    refine ⟨⟨some (seq + 1), x.outOfOrder, x.updLosses, x.period.losses⟩, ?_, ?_⟩
    · simp only [takeSequence, hx]; rfl
    · simp [SequencePart.Follows, hx]
  | some next =>
    by_cases hgap : (seq - next).toNat ≤ 32767
    · refine ⟨⟨some (seq + 1), x.outOfOrder, sat32 (x.updLosses + (seq - next).toNat),
        sat32 (x.period.losses + (seq - next).toNat)⟩, ?_, ?_⟩
      · simp only [takeSequence, hx, if_pos hgap]; rfl
      · have near : ¬ 32768 ≤ (seq - next).toNat := by omega
        simp [SequencePart.Follows, hx, sat32_eq, near, -BitVec.toNat_sub]
    · refine ⟨⟨some next, sat16 (x.outOfOrder + 1), x.updLosses, x.period.losses⟩, ?_, ?_⟩
      · simp only [takeSequence, hx, if_neg hgap, PathRecord.withSequence]
      · simp [SequencePart.Follows, hx, sat16_eq, hgap, -BitVec.toNat_sub]

/-! ### The delay sample -/

/-- The quality field of a stamp as bits (R80). -/
def Quality.bits : Quality → BitVec 2
  | .unset => 0
  | .free => 1
  | .holdover => 2
  | .locked => 3

/-- A quality that passes the quality test and the holdover test (R87). -/
def Estimator.Trusts (e : Estimator) (q : BitVec 2) : Prop := q = 3 ∨ q = 2 ∧ e.acceptHoldover = true

/-- The quality read from a stamp has the bits of its field (R80). -/
theorem stampQuality_bits (w : Word) : (stampQuality w).bits = w.extractLsb' 59 2 := by
  unfold stampQuality field
  generalize w.extractLsb' 59 2 = q
  revert q
  decide

/-- The quality test and the holdover test, by the bits of the quality (R87). -/
theorem qualityFails_eq_false_iff (e : Estimator) (q : Quality) : qualityFails e q = false ↔ e.Trusts q.bits := by
  cases q <;> simp [qualityFails, Estimator.Trusts, Quality.bits]

/-- An epoch passes where none other is remembered (R88). -/
theorem epochPasses_iff (remembered : Option (BitVec 2)) (now : BitVec 2) :
    epochPasses remembered now = true ↔ ∀ b, remembered = some b → b = now := by
  cases remembered <;> simp [epochPasses]

/-- The four tests of a sample (R87, R88). -/
theorem sampleValid_iff (e : Estimator) (stamp : Word) (now : Reading) (x : PathRecord) :
    sampleValid e stamp now x = true ↔
      0 ≤ sinceStamp now stamp ∧ sinceStamp now stamp ≤ e.maxPlausible ∧ e.Trusts (stamp.extractLsb' 59 2) ∧
        e.Trusts now.quality.bits ∧ (∀ b, x.farEpoch = some b → b = stampEpoch stamp) ∧
        ∀ b, x.nearEpoch = some b → b = now.epoch := by
  simp only [sampleValid, Bool.and_eq_true, decide_eq_true_eq, Bool.not_eq_true', qualityFails_eq_false_iff,
    epochPasses_iff, stampQuality_bits, and_assoc]

/-- The sample part of a record. -/
def PathRecord.samplePart (x : PathRecord) : SamplePart :=
  ⟨x.farEpoch, x.nearEpoch, x.est, x.jit, x.rxCount, x.rxAge, x.period.discarded, x.period.samples, x.period.minimum,
    x.period.maximum, x.period.sum⟩

/-- The sample part after one more discarded sample (R87). -/
def SamplePart.discard (c : SamplePart) : SamplePart := { c with discarded := min 4294967295 (c.discarded + 1) }

/-- A valid sample of `d` ns has entered the RX view and the period counts of a record (R89, R91). -/
def SamplePart.Enters (c : SamplePart) (e : Estimator) (d : Int) (x : PathRecord) : Prop :=
  c.rxAge = 0 ∧ c.rxCount = min 4294967295 (x.rxCount + 1) ∧
    (x.est = none → c.est = some (16 * d.toNat) ∧ c.jit = 0) ∧
    (∀ est, x.est = some est →
      let diff : Int := 16 * d - est
      c.est = some (max 0 (min ((est : Int) + diff / 2 ^ e.k) (16 * e.maxPlausible))).toNat ∧
        c.jit = min 4294967295 ((x.jit : Int) + ((diff.natAbs : Int) - x.jit) / 2 ^ e.kj).toNat) ∧
    c.discarded = x.period.discarded ∧ c.samples = min 4294967295 (x.period.samples + 1) ∧
    c.minimum = some (min (x.period.minimum.getD d.toNat) d.toNat) ∧
    c.maximum = some (max (x.period.maximum.getD d.toNat) d.toNat) ∧
    c.sum = min 281474976710655 (x.period.sum + d.toNat)

/-- The RX view after a valid sample: set at the first one, filtered after that; nothing else of the record moves (R91). -/
theorem enterRx_moves (e : Estimator) {d : Nat} {delay : Int} (hd : (d : Int) = delay) (x : PathRecord) :
    ∃ (est jit : Nat),
      enterRx e d x = { x with est := some est, jit := jit, rxCount := min 4294967295 (x.rxCount + 1) } ∧
      (x.est = none → est = 16 * d ∧ jit = 0) ∧
      ∀ old, x.est = some old →
        let diff : Int := 16 * delay - old
        est = (max 0 (min ((old : Int) + diff / 2 ^ e.k) (16 * e.maxPlausible))).toNat ∧
          jit = min 4294967295 ((x.jit : Int) + ((diff.natAbs : Int) - x.jit) / 2 ^ e.kj).toNat := by
  subst hd
  unfold enterRx clampInt
  cases hx : x.est with
  | none => exact ⟨_, _, by rw [sat32_eq], fun _ => ⟨rfl, rfl⟩, nofun⟩
  | some old =>
    refine ⟨_, _, by rw [sat32_eq], nofun, ?_⟩
    rintro _ ⟨⟩
    exact ⟨rfl, sat32_eq _⟩

/-- The period counts after a valid sample (R89). -/
theorem enterCounts_eq (d : Nat) (c : PathCounts) :
    enterCounts d c =
      { c with
        samples := min 4294967295 (c.samples + 1)
        minimum := some (min (c.minimum.getD d) d)
        maximum := some (max (c.maximum.getD d) d)
        sum := min 281474976710655 (c.sum + d) } := by
  unfold enterCounts
  have hsum : saturate (2 ^ 48 - 1) (c.sum + d) = min 281474976710655 (c.sum + d) := Nat.min_comm ..
  rw [sat32_eq, hsum]
  cases c.minimum <;> cases c.maximum <;> simp

/-- The far epoch is remembered after every sample; the near epoch after a valid one, or where one was (R88). -/
theorem rememberEpochs_eq (stamp : Word) (now : Reading) (valid : Bool) (x : PathRecord) :
    rememberEpochs stamp now valid x =
      { x with
        farEpoch := some (stampEpoch stamp)
        nearEpoch := if valid then some now.epoch else x.nearEpoch.map (fun _ => now.epoch) } := by
  unfold rememberEpochs
  cases valid <;> cases x.nearEpoch <;> rfl

/-- A valid sample, with both epochs remembered, moves the sample part alone (R88, R89, R91). -/
theorem takeSample_valid {e : Estimator} {stamp : Word} {now : Reading} {x : PathRecord}
    (h : sampleValid e stamp now x = true) :
    ∃ c : SamplePart, takeSample e stamp now x = x.withSample c ∧ c.farEpoch = some (stampEpoch stamp) ∧
      c.nearEpoch = some now.epoch ∧ c.Enters e (sinceStamp now stamp) x := by
  obtain ⟨hnonneg, _⟩ := (sampleValid_iff ..).1 h
  obtain ⟨est, jit, hrx, hfirst, hnext⟩ := enterRx_moves e (Int.toNat_of_nonneg hnonneg) x
  unfold takeSample
  simp only [if_pos h, hrx, enterCounts_eq, rememberEpochs_eq]
  refine ⟨⟨_, some now.epoch, some est, jit, _, 0, x.period.discarded, _, _, _, _⟩, rfl, rfl, rfl, rfl, rfl, ?first, ?next,
    rfl, rfl, rfl, rfl, rfl⟩
  case first => simpa using hfirst
  case next => simpa using hnext

/-- Without a word 2 one more sample is discarded (R77, R87). -/
theorem countDiscard_eq (x : PathRecord) : countDiscard x = x.withSample x.samplePart.discard := by
  unfold countDiscard
  rw [sat32_eq]
  rfl

/-- A sample that fails a test is discarded; its far epoch is remembered, and the near epoch where one was (R87, R88). -/
theorem takeSample_invalid {e : Estimator} {stamp : Word} {now : Reading} {x : PathRecord}
    (h : ¬ sampleValid e stamp now x = true) :
    takeSample e stamp now x =
      x.withSample { x.samplePart.discard with
        farEpoch := some (stampEpoch stamp), nearEpoch := x.nearEpoch.map (fun _ => now.epoch) } := by
  unfold takeSample
  rw [if_neg h, countDiscard_eq, rememberEpochs_eq]
  rfl

/-- The sample part after what word 2 of a receive commit brings a record (R77, R87, R88). -/
def SamplePart.Sampled (c : SamplePart) (e : Estimator) (now : Reading) (word2 : Option Word) (x : PathRecord) : Prop :=
  (word2 = none → c = x.samplePart.discard) ∧
  ∀ stamp, word2 = some stamp →
    c.farEpoch = some (stampEpoch stamp) ∧
    (sampleValid e stamp now x = true → c.nearEpoch = some now.epoch ∧ c.Enters e (sinceStamp now stamp) x) ∧
    (¬ sampleValid e stamp now x = true → c = { x.samplePart.discard with
      farEpoch := some (stampEpoch stamp), nearEpoch := x.nearEpoch.map (fun _ => now.epoch) })

/-- The delivery of a sample, or of its absence, moves the sample part alone (R77). -/
theorem deliverSample_moves (p : Path) (word2 : Option Word) (now : Reading) (s : State) :
    ∃ c : SamplePart, (deliverSample p word2 now s).paths[p] = s.paths[p].withSample c ∧
      c.Sampled s.estimator now word2 s.paths[p] := by
  unfold deliverSample
  simp only [setPathRec_get, if_true]
  cases word2 with
  | none => exact ⟨_, countDiscard_eq _, fun _ => rfl, nofun⟩
  | some stamp =>
    by_cases h : sampleValid s.estimator stamp now s.paths[p] = true
    · obtain ⟨c, hc, hfar, hmoves⟩ := takeSample_valid h
      refine ⟨c, hc, nofun, ?_⟩
      rintro _ ⟨⟩
      exact ⟨hfar, fun _ => hmoves, fun hn => absurd h hn⟩
    · refine ⟨_, takeSample_invalid h, nofun, ?_⟩
      rintro _ ⟨⟩
      exact ⟨rfl, fun hv => absurd hv h, fun _ => rfl⟩

/-! ### The report-back word -/

/-- The states an adverse verdict moves to DOWN (R111). -/
theorem inService_iff (h : Health) : h.inService = true ↔ h = .up ∨ h = .fading ∨ h = .probation := by
  cases h <;> simp [Health.inService]

/-- A far-end verdict of code 4 or above takes a path in service to DOWN, its counters cleared (R111, R112). -/
theorem judged_farEnd (run code : Nat) (x y : PathRecord) :
    judged run (if 4 ≤ code then judgeDown x .farEnd else none) y =
      if 4 ≤ code ∧ (x.state = .up ∨ x.state = .fading ∨ x.state = .probation) then
        { y with state := .down, lastCause := 10, belowFade := 0, belowDown := 0, aboveRecover := 0 }
      else y := by
  unfold judgeDown
  simp only [inService_iff]
  by_cases hcode : 4 ≤ code
  · by_cases hserves : x.state = .up ∨ x.state = .fading ∨ x.state = .probation
    · rw [if_pos hcode, if_pos hserves, if_pos ⟨hcode, hserves⟩]
      rfl
    · rw [if_pos hcode, if_neg hserves, if_neg (fun h => hserves h.2)]
      rfl
  · rw [if_neg hcode, if_neg (fun h => hcode h.1)]
    rfl

/-- The report-back part of a record. -/
def PathRecord.reportBackPart (x : PathRecord) : ReportBackPart :=
  ⟨x.tx, x.period.reportBacks, x.farEnd, x.state, x.lastCause⟩

/-- The state of a path and the cause of its last change after a far-end verdict (R111, R116). -/
def PathRecord.verdictOf (x : PathRecord) (code : Nat) : Health × Nat :=
  if 4 ≤ code ∧ (x.state = .up ∨ x.state = .fading ∨ x.state = .probation) then (.down, 10) else (x.state, x.lastCause)

/-- The report-back part of a record after a report-back word (R94, R111). -/
def PathRecord.reportedBack (x : PathRecord) (back : Word) : ReportBackPart :=
  { tx :=
      if back.getLsbD 57 then
        some ⟨(back.extractLsb' 0 30).toNat, (back.extractLsb' 30 16).toNat, (back.extractLsb' 58 6).toNat⟩
      else x.tx
    reportBacks := min 4294967295 (x.period.reportBacks + 1)
    farEnd := farEndAfter (field back 54 3) x.farEnd
    state := (x.verdictOf (field back 54 3)).1
    lastCause := (x.verdictOf (field back 54 3)).2 }

/-- The report-back part after what word 3 of a receive commit brings a record (R77). -/
def ReportBackPart.Reported (c : ReportBackPart) (word3 : Option Word) (x : PathRecord) : Prop :=
  (word3 = none → c = x.reportBackPart) ∧ ∀ back, word3 = some back → c = x.reportedBack back

/-- The health field of a report-back word is one update of one path record (R111). -/
theorem takeFarEnd_paths (p : Path) (code : Nat) (s : State) :
    (takeFarEnd p code s).paths = s.paths.set p
      (judged s.tb.runNs (if 4 ≤ code then judgeDown s.paths[p] .farEnd else none)
        { s.paths[p] with farEnd := farEndAfter code s.paths[p].farEnd }) := by
  unfold takeFarEnd
  rw [enterIf_paths, setPathRec_get, if_pos rfl]
  simp

/-- The record after a report-back word, whether it takes the path out of service or not (R94, R111). -/
theorem judged_reportBack (run : Nat) (back : Word) (x : PathRecord) :
    judged run (if 4 ≤ field back 54 3 then judgeDown (takeReportBack back x) .farEnd else none)
      { takeReportBack back x with farEnd := farEndAfter (field back 54 3) (takeReportBack back x).farEnd } =
      x.withReportBack (x.reportedBack back) := by
  rw [judged_farEnd]
  unfold takeReportBack PathRecord.withReportBack PathRecord.reportedBack PathRecord.verdictOf
  rw [sat32_eq]
  by_cases h : 4 ≤ field back 54 3 ∧ (x.state = .up ∨ x.state = .fading ∨ x.state = .probation)
  · have moves : Health.down ≠ x.state := by
      obtain ⟨_, hx | hx | hx⟩ := h <;> simp [hx]
    simp only [if_pos h, if_neg moves]
    rfl
  · simp only [if_neg h, if_true]
    rfl

/-- The delivery of a report-back word, or of none, moves the report-back part alone (R77). -/
theorem deliverReportBack_moves (p : Path) (word3 : Option Word) (s : State) :
    ∃ c : ReportBackPart, (deliverReportBack p word3 s).paths[p] = s.paths[p].withReportBack c ∧
      c.Reported word3 s.paths[p] := by
  unfold deliverReportBack
  cases word3 with
  | none =>
    refine ⟨s.paths[p].reportBackPart, ?_, fun _ => rfl, nofun⟩
    simp [PathRecord.withReportBack, PathRecord.reportBackPart]
  | some back =>
    refine ⟨s.paths[p].reportedBack back, ?_, nofun, ?_⟩
    · simp only [takeFarEnd_paths, setPathRec_get, if_true, setPathRec_tb]
      simpa using judged_reportBack s.tb.runNs back s.paths[p]
    · rintro _ ⟨⟩
      rfl

/-! ### The two deliveries -/

/-- A delivery to the Arrival Merger is one update of one path record, of its period counts alone (R150). -/
theorem deliverMerger_paths (r : Route) (seq : BitVec 24) (p : Path) (rd : Reading) (s : State) :
    (deliverMerger r seq p rd s).paths = s.paths.set p
      { s.paths[p] with period := handedCounts (s.mergers[r].take seq rd p).2 s.paths[p].period } := by
  unfold deliverMerger
  dsimp only
  split
  · rw [(submit_only ..).paths]; rfl
  · rfl

/-- What a path is handed lies in the merger's counts (R150). -/
theorem handedCounts_moves (h : Handed) (x : PathRecord) :
    ∃ d : MergerPart, { x with period := handedCounts h x.period } = x.withMerger d := by
  cases h with
  | win => exact ⟨⟨_, _, _⟩, rfl⟩
  | late margin => exact ⟨⟨_, _, _⟩, rfl⟩
  | nothing => exact ⟨⟨_, _, _⟩, rfl⟩

/-- The delivery to the Arrival Merger moves the merger's counts alone in the path's record (R78). -/
theorem deliverArrival_moves (k : ArrivalCommit) (s : State) :
    ∃ d : MergerPart, (deliverArrival k s).paths[k.path] = s.paths[k.path].withMerger d := by
  obtain ⟨d, hd⟩ :=
    handedCounts_moves (s.mergers[commitRoute k.commit].take (commitRouteSeq k.commit) k.reading k.path).2 s.paths[k.path]
  refine ⟨d, ?_⟩
  rw [← hd]
  unfold deliverArrival
  simp only [deliverMerger_paths]
  simp

/-- The delivery to the Path Monitor moves the three parts it is for, each by the record before the commit (R77). -/
theorem deliverMonitor_moves (k : ArrivalCommit) (s : State) :
    ∃ (a : SamplePart) (b : ReportBackPart) (c : SequencePart),
      (deliverMonitor k s).paths[k.path] = ((s.paths[k.path].withSample a).withReportBack b).withSequence c ∧
      a.Sampled s.estimator k.reading k.word2 s.paths[k.path] ∧ b.Reported k.word3 s.paths[k.path] ∧
      c.Follows (commitPathSeq k.commit) s.paths[k.path] := by
  obtain ⟨a, ha, hsampled⟩ := deliverSample_moves k.path k.word2 k.reading s
  obtain ⟨b, hb, hreported⟩ := deliverReportBack_moves k.path k.word3 (deliverSample k.path k.word2 k.reading s)
  obtain ⟨c, hc, hfollows⟩ := takeSequence_follows (commitPathSeq k.commit)
    (deliverReportBack k.path k.word3 (deliverSample k.path k.word2 k.reading s)).paths[k.path]
  rw [ha] at hb hreported
  rw [hb] at hc hfollows
  refine ⟨a, b, c, ?_, hsampled, hreported, hfollows⟩
  unfold deliverMonitor deliverSequence
  rw [setPathRec_get, if_pos rfl, hb, hc]

/-- Both deliveries, in either order (R77, R78, log 8). -/
theorem deliverBoth_moves (monitorFirst : Bool) (k : ArrivalCommit) (s : State) :
    ∃ (a : SamplePart) (b : ReportBackPart) (c : SequencePart) (d : MergerPart),
      (deliverBoth monitorFirst k s).paths[k.path] =
        (((s.paths[k.path].withSample a).withReportBack b).withSequence c).withMerger d ∧
      a.Sampled s.estimator k.reading k.word2 s.paths[k.path] ∧ b.Reported k.word3 s.paths[k.path] ∧
      c.Follows (commitPathSeq k.commit) s.paths[k.path] := by
  unfold deliverBoth
  cases monitorFirst with
  | true =>
    obtain ⟨a, b, c, hmonitor, hmoves⟩ := deliverMonitor_moves k s
    obtain ⟨d, hmerger⟩ := deliverArrival_moves k (deliverMonitor k s)
    rw [hmonitor] at hmerger
    exact ⟨a, b, c, d, hmerger, hmoves⟩
  | false =>
    have hest : (deliverArrival k s).estimator = s.estimator := (deliverMerger_only ..).estimator
    obtain ⟨d, hmerger⟩ := deliverArrival_moves k s
    obtain ⟨a, b, c, hmonitor, hmoves⟩ := deliverMonitor_moves k (deliverArrival k s)
    rw [hmerger, withMerger_comm] at hmonitor
    rw [hmerger, hest] at hmoves
    exact ⟨a, b, c, d, hmonitor, hmoves⟩

/-! ### The way to the Stamp Unit -/

/-- A RECEIVE_COMMIT is presented at the Agent Port. -/
theorem exec_receiveCommit (w : WriteReq) (s : State) : exec (.receiveCommit w) s = .next (presentWrite w s.quiet) := rfl

/-- A ready commit word of the path's own modem is a receive commit (R75). -/
theorem arrivalWrite_ready {s : State} {win : Window} {offset : Nat} {beats : List Beat} {word : Word} (tag : Tag)
    (acks : Bool) (hword : coveredWord (s.slotOffset offset) beats 0 = some word) (hready : readyBit word = true) :
    arrivalWrite win offset tag beats acks s =
      receiveCommit (Config.monitorFirst s.choice) win offset tag beats word acks { s with choice := s.choice + 1 } := by
  unfold arrivalWrite
  simp only [hword, hready, if_true]

/-- The Window Decoder hands a modem's write to its path's receive window to the Stamp Unit (R73). -/
theorem acceptWrite_pathRx_modem {s : State} {w : WriteReq} {win : Window} {offset : Nat} (acks : Bool)
    (hrole : s.agents[w.tag].role = .modem) (hpath : s.agents[w.tag].path = win.path) (hkind : win.kind = .pathRx)
    (hwin : s.classify w.addr = .window win offset) :
    acceptWrite w acks s = arrivalWrite win offset w.tag w.beats acks s := by
  have hmodem : s.isModemOf w.tag win.path = true := by
    unfold State.isModemOf
    rw [hrole, hpath]
    simp
  unfold acceptWrite
  simp only [hwin, hkind, hmodem, if_true]

/-- The path record after a receive commit is the one its two deliveries leave (R75, R77, R78). -/
theorem exec_receiveCommit_path {s : State} {w : WriteReq} {p : Path} {win : Window} {offset : Nat} {word : Word}
    (h : s.receives w p win offset word) :
    ∃ t u : State, exec (.receiveCommit w) s = .next t ∧ u.paths = s.paths ∧ u.estimator = s.estimator ∧
      t.paths = (deliverBoth (Config.monitorFirst s.choice)
        (s.gather p (s.slotOf offset) (s.slotOffset offset) word w.beats) u).paths := by
  obtain ⟨⟨hfree, hblock, hrole, hkind, hwin⟩, rfl, hpath, hword, hready⟩ := h
  refine ⟨_, { s.quiet.setWaiting [.write w true] with
    choice := s.choice + 1
    arrivals := s.arrivals.set win.path (s.arrivals[win.path].filter (fun a => a.slot != s.slotOf offset)) },
    exec_receiveCommit w s, rfl, rfl, ?_⟩
  have haccept := acceptWrite_pathRx_modem (s := s.quiet.setWaiting [.write w true]) true hrole hpath hkind hwin
  have harrival := arrivalWrite_ready (s := s.quiet.setWaiting [.write w true]) (win := win) w.tag true hword hready
  rw [presentWrite_free w s hfree hblock, haccept, harrival]
  rfl

/-- A word of the slot's pending record, where the list has one (R76). -/
theorem pendingWord_eq_bind (list : List PendingArrival) (slot : Nat) (get : PendingArrival → Option Word) :
    pendingWord list slot get = (list.find? (fun a => a.slot == slot)).bind get := by
  unfold pendingWord
  cases list.find? (fun a => a.slot == slot) <;> rfl

/-- A receive commit replaces four disjoint parts of its path's record, whichever delivery came first; words 2 and 3 come
from the write or from the slot's pending record (R75 to R78, log 8). -/
theorem exec_receiveCommit_moves {s : State} {w : WriteReq} {p : Path} {win : Window} {offset : Nat} {word : Word}
    (h : s.receives w p win offset word) :
    let off := s.slotOffset offset
    let held := s.arrivals[p].find? (fun a => a.slot == s.slotOf offset)
    ∃ (t : State) (a : SamplePart) (b : ReportBackPart) (c : SequencePart) (d : MergerPart),
      exec (.receiveCommit w) s = .next t ∧
      t.paths[p] = (((s.paths[p].withSample a).withReportBack b).withSequence c).withMerger d ∧
      a.Sampled s.estimator s.reading ((coveredWord off w.beats 2).or (held.bind PendingArrival.word2)) s.paths[p] ∧
      b.Reported ((coveredWord off w.beats 3).or (held.bind PendingArrival.word3)) s.paths[p] ∧
      c.Follows (commitPathSeq word) s.paths[p] := by
  obtain ⟨t, u, hexec, hpaths, hest, hdelivered⟩ := exec_receiveCommit_path h
  obtain ⟨a, b, c, d, hy, hsampled, hreported, hfollows⟩ := deliverBoth_moves (Config.monitorFirst s.choice)
    (s.gather p (s.slotOf offset) (s.slotOffset offset) word w.beats) u
  rw [← hdelivered, hpaths] at hy
  rw [hpaths, hest] at hsampled
  rw [hpaths] at hreported hfollows
  unfold State.gather at hsampled hreported
  simp only [pendingWord_eq_bind] at hsampled hreported
  exact ⟨t, a, b, c, d, hexec, hy, hsampled, hreported, hfollows⟩

/-- Settles O26: each clause is read off the part of the record it speaks of. -/
theorem sequenceGapsCountAsLosses : Obligations.SequenceGapsCountAsLosses := by
  intro s w p win offset word h
  obtain ⟨t, a, b, c, d, hexec, hy, ⟨hnoStamp, hstamp⟩, ⟨hnoBack, hback⟩, habsent, hahead, hbehind⟩ :=
    exec_receiveCommit_moves h
  refine ⟨t, _, hexec, hy, habsent, hahead, hbehind, ?noStamp, ?stamp, ?noBack, ?back, rfl⟩
  case noStamp =>
    intro hnone
    obtain rfl := hnoStamp hnone
    exact ⟨rfl, rfl, rfl, rfl, rfl, rfl, rfl, rfl, rfl, rfl, rfl⟩
  case stamp =>
    intro stamp hsome
    obtain ⟨hfar, hvalid, hinvalid⟩ := hstamp stamp hsome
    have htests := sampleValid_iff s.estimator stamp s.reading s.paths[p]
    refine ⟨hfar, fun hv => hvalid (htests.2 hv), fun hn => ?_⟩
    obtain rfl := hinvalid (fun hv => hn (htests.1 hv))
    exact ⟨rfl, rfl, rfl, rfl, rfl, rfl, rfl, rfl, rfl, rfl⟩
  case noBack =>
    intro hnone
    obtain rfl := hnoBack hnone
    exact ⟨rfl, rfl, rfl, rfl, rfl⟩
  case back =>
    intro back hsome
    obtain rfl := hback back hsome
    exact ⟨rfl, rfl, rfl, rfl⟩

end Sys2Proof.Machine

/-! ## Status words

What a status word makes of its path: the record it feeds (R103), the judgement of that record (R104 to R107), and the entry
to a state with its PATH_STATE report ahead of the reports of its reselections (R112, R116, R126). -/

namespace Sys2Proof.Machine

/-! ### The write list grows at its end -/

/-- A status word is listed behind what the write list holds (R180). -/
theorem listStatus_writeList_prefix (s : State) : s.writeList <+: (listStatus s).writeList := by
  unfold listStatus
  split
  · exact List.prefix_rfl
  · exact List.prefix_append ..

/-- So is the one a pending flag brings (R180). -/
theorem setPending_writeList_prefix (k : RingId) (s : State) : s.writeList <+: (setPending k s).writeList := by
  unfold setPending
  split
  · exact List.prefix_rfl
  · exact listStatus_writeList_prefix (s.setRing k _)

/-- A drop takes no item from the write list (R178). -/
theorem countDrop_writeList_prefix (k : ReportKind) (s : State) : s.writeList <+: (countDrop k s).writeList := by
  unfold countDrop
  extract_lets ring u
  have counted : u.writeList = s.writeList := by
    unfold u
    split <;> rfl
  split
  · exact counted ▸ setPending_writeList_prefix 0 u
  · rw [counted]

/-- Whatever becomes of a report, the items before it keep their places (R176). -/
theorem submit_writeList_prefix (r : Report) (s : State) : s.writeList <+: (submit r s).writeList := by
  unfold submit
  split
  · exact List.prefix_rfl
  split
  · exact List.prefix_append ..
  · exact countDrop_writeList_prefix ..

/-- A report the mask lets through is listed where the write list has room (R176). -/
theorem submit_listed {r : Report} {s : State} (hmask : s.rings[r.kind.ring].mask.getLsbD r.kind.code = false)
    (hroom : (s.writeList.filter ListItem.isRecord).length < Config.writeListRecords) :
    (submit r s).writeList = s.writeList ++ [.record r] := by
  unfold submit
  rw [hmask, if_neg Bool.false_ne_true, if_pos hroom]

/-- A choice submits its ROUTE_CHANGE behind what is listed (R136). -/
theorem choose_writeList_prefix (r : Route) (cause : RouteCause) (q : Option Path) (c : Choice) (s : State) :
    s.writeList <+: (choose r cause q c s).writeList := by
  unfold choose
  dsimp only
  split
  · exact List.prefix_rfl
  · exact submit_writeList_prefix _ (s.setRouteRec r _)

/-- So does the reselection of one route (R126). -/
theorem reselectRoute_writeList_prefix (q : Path) (old new : Health) (r : Route) (s : State) :
    s.writeList <+: (reselectRoute q old new r s).writeList := by
  unfold reselectRoute
  split
  · split
    · exact choose_writeList_prefix ..
    · exact List.prefix_rfl
  · exact List.prefix_rfl

/-- A fold of operations that only lengthen the write list only lengthens it. -/
theorem foldl_writeList_prefix {α : Type} {f : State → α → State} (h : ∀ s a, s.writeList <+: (f s a).writeList)
    (xs : List α) (s : State) : s.writeList <+: (xs.foldl f s).writeList := by
  induction xs generalizing s with
  | nil => exact List.prefix_rfl
  | cons a as ih => exact (h s a).trans (ih (f s a))

/-- And the reselections of a change, route after route (R126). -/
theorem reselect_writeList_prefix (q : Path) (old new : Health) (s : State) :
    s.writeList <+: (reselect q old new s).writeList :=
  foldl_writeList_prefix (fun s r => reselectRoute_writeList_prefix q old new r s) _ s

/-! ### The PATH_STATE report of an entry -/

/-- A flag's 32-bit payload field. -/
theorem u32_bit (b : Bool) : u32 (bit b) = if b then 1 else 0 := by cases b <;> rfl

/-- The PATH_STATE record reads the cause from the path's record, where the entry has put it (R116, R182). -/
theorem pathState_eq_changeReport {s : State} {p : Path} {cause : PathCause} (old : Health)
    (hcause : s.paths[p].lastCause = cause.code) : s.pathState p cause old = s.changeReport p old s.paths[p] := by
  unfold State.pathState State.changeReport makeReport
  simp only [u32_bit, hcause, i32]
  congr 2
  · cases old <;> rfl
  congr 1
  · cases s.paths[p].state <;> rfl
  congr 1
  cases s.paths[p].set.cls <;> rfl

/-- The path's own record after its entry to a state (R112). -/
theorem enterState_get (p : Path) (new : Health) (cause : PathCause) (s : State) :
    (enterState p new cause s).paths[p] = s.paths[p].entered s.tb.runNs new cause.code := by
  simp [enterState_paths, entryChanges_entered]

/-- The cause of a record after an entry is the entry's (R116). -/
theorem entered_lastCause (run : Nat) (new : Health) (cause : Nat) (x : PathRecord) :
    (x.entered run new cause).lastCause = cause := by
  cases new <;> rfl

/-- So is its state (R112). -/
theorem entered_state (run : Nat) (new : Health) (cause : Nat) (x : PathRecord) :
    (x.entered run new cause).state = new := by
  cases new <;> rfl

/-- An entry to a state in its parts: the record, its PATH_STATE report, then the reselections (R112, R116, R126). -/
theorem enterState_eq (p : Path) (new : Health) (cause : PathCause) (s : State) :
    enterState p new cause s =
      reselect p s.paths[p].state new
        (submit (s.changeReport p s.paths[p].state (s.paths[p].entered s.tb.runNs new cause.code))
          (s.setPathRec p (s.paths[p].entered s.tb.runNs new cause.code))) := by
  have hget : (s.setPathRec p (s.paths[p].entered s.tb.runNs new cause.code)).paths[p] =
      s.paths[p].entered s.tb.runNs new cause.code := by rw [setPathRec_get, if_pos rfl]
  have hreport := pathState_eq_changeReport s.paths[p].state
    ((congrArg PathRecord.lastCause hget).trans (entered_lastCause ..))
  rw [hget] at hreport
  unfold enterState
  rw [entryChanges_entered]
  dsimp only
  rw [hreport]
  rfl

/-- The PATH_STATE report of an entry is listed ahead of any report of its reselections (R116, R126). -/
theorem enterState_writeList {s : State} (p : Path) (new : Health) (cause : PathCause)
    (hmask : s.rings[(0 : Fin 2)].mask.getLsbD 1 = false)
    (hroom : (s.writeList.filter ListItem.isRecord).length < 8) :
    ∃ rest, (enterState p new cause s).writeList =
      s.writeList ++ .record (s.changeReport p s.paths[p].state (enterState p new cause s).paths[p]) :: rest := by
  rw [enterState_get, enterState_eq]
  generalize s.paths[p].entered s.tb.runNs new cause.code = y
  have hlisted : (submit (s.changeReport p s.paths[p].state y) (s.setPathRec p y)).writeList =
      s.writeList ++ [.record (s.changeReport p s.paths[p].state y)] := submit_listed hmask hroom
  obtain ⟨rest, hrest⟩ := reselect_writeList_prefix p s.paths[p].state new
    (submit (s.changeReport p s.paths[p].state y) (s.setPathRec p y))
  rw [hlisted, List.append_assoc] at hrest
  exact ⟨rest, hrest.symm⟩

/-! ### The judgement -/

/-- The record a status word feeds: its fields, the timer restarted and the three counters (R103). -/
theorem feedCounters_storeStatus (run : Nat) (w : Word) (x : PathRecord) :
    feedCounters run w (storeStatus w x) =
      { x with
        lastRsl := statusRsl w, lastLock := statusLock w, lastStep := statusStep w, timer := some run
        belowFade :=
          if statusRsl w < x.hs.fadeLevel ∨ statusStep w < x.hs.minStep then min 255 (x.belowFade + 1) else 0
        belowDown := if statusRsl w < x.hs.downLevel then min 255 (x.belowDown + 1) else 0
        aboveRecover :=
          if x.hs.recoverLevel ≤ statusRsl w ∧ statusLock w = true ∧ x.hs.minStep ≤ statusStep w then
            min 255 (x.aboveRecover + 1)
          else 0 } := by
  unfold feedCounters storeStatus runCounter
  simp [sat8, saturate, Nat.min_comm, and_assoc]

/-- The state of a record and the code of its cause after a judgement (R104 to R107). -/
def PathRecord.verdict (x : PathRecord) : Option (Health × PathCause) → Health × Nat
  | some (new, cause) => (new, cause.code)
  | none => (x.state, x.lastCause)

/-- A judgement that moves the path gives its state and its cause. -/
@[simp] theorem verdict_some (x : PathRecord) (new : Health) (cause : PathCause) :
    x.verdict (some (new, cause)) = (new, cause.code) := rfl

/-- No judgement leaves both as they are. -/
@[simp] theorem verdict_none (x : PathRecord) : x.verdict none = (x.state, x.lastCause) := rfl

/-- The judgement of a status word, with the code of each cause (R104 to R107, R116). -/
theorem verdict_judgeStatus (x : PathRecord) :
    x.verdict (judgeStatus x) =
      match x.state with
      | .up =>
        if x.lastLock = false then (.down, 7)
        else if x.hs.nDown ≤ x.belowDown then (.down, 6)
        else if x.hs.nFade ≤ x.belowFade then (.fading, 4)
        else (.up, x.lastCause)
      | .fading =>
        if x.lastLock = false then (.down, 7)
        else if x.hs.nDown ≤ x.belowDown then (.down, 6)
        else if x.hs.nRecover ≤ x.aboveRecover ∧ x.lastLosses < x.hs.lossFade then (.up, 12)
        else (.fading, x.lastCause)
      | .probation =>
        if x.lastLock = false then (.down, 7)
        else if x.hs.nDown ≤ x.belowDown then (.down, 6)
        else if x.hs.nFade ≤ x.belowFade then (.down, 11)
        else (.probation, x.lastCause)
      | .down =>
        if x.hs.nRecover ≤ x.aboveRecover ∧ x.farEnd = none then (.probation, 13) else (.down, x.lastCause)
      | .cut => (.cut, x.lastCause)
      | .disabled => (.disabled, x.lastCause) := by
  unfold judgeStatus
  cases h : x.state <;> simp only [apply_ite x.verdict, verdict_some, verdict_none, PathCause.code, h]

/-- A judgement that moves a path moves it to another state (R104 to R107). -/
theorem judgeStatus_ne {x : PathRecord} {new : Health} {cause : PathCause} (h : judgeStatus x = some (new, cause)) :
    new ≠ x.state := by
  rintro rfl
  unfold judgeStatus at h
  cases hx : x.state with
  | cut | disabled =>
    simp only [hx] at h
    cases h
  | up | fading | probation | down =>
    simp only [hx] at h
    split_ifs at h <;> cases h

/-- A DISABLED path is not judged (R103). -/
theorem judgeStatus_disabled {x : PathRecord} (h : x.state = .disabled) : judgeStatus x = none := by
  unfold judgeStatus
  rw [h]

/-! ### The word taken -/

/-- A word whose judgement moves nothing leaves the state and the cause in the path's record, and no trace outside the
record (R103). -/
theorem takeStatusWord_stays {p : Path} {w : Word} {s : State} {fed : PathRecord}
    (hfed : feedCounters s.tb.runNs w (storeStatus w s.paths[p]) = fed) (h : judgeStatus fed = none) :
    ∃ y : PathRecord, takeStatusWord p w s = s.setPathRec p y ∧ y.state = s.paths[p].state ∧
      y.lastCause = s.paths[p].lastCause := by
  subst hfed
  unfold takeStatusWord
  dsimp only
  split
  · exact ⟨_, rfl, rfl, rfl⟩
  · rw [h]
    exact ⟨_, rfl, rfl, rfl⟩

/-- A word whose judgement moves the path makes its entry on the record it has fed (R103, R112). -/
theorem takeStatusWord_enters {p : Path} {w : Word} {s : State} {fed : PathRecord} {new : Health} {cause : PathCause}
    (hfed : feedCounters s.tb.runNs w (storeStatus w s.paths[p]) = fed) (h : judgeStatus fed = some (new, cause)) :
    takeStatusWord p w s = enterState p new cause (s.setPathRec p fed) := by
  subst hfed
  unfold takeStatusWord
  dsimp only
  split
  next hdisabled =>
    rw [judgeStatus_disabled (x := feedCounters s.tb.runNs w (storeStatus w s.paths[p])) hdisabled] at h
    cases h
  next =>
    rw [h]
    rfl

/-- A write to a STATUS window by a path's modem, at a free port, has its word taken (R15). -/
theorem exec_statusWord {s : State} {w : WriteReq} {p : Path} {word : Word} (h : s.statusWrite w p word) :
    ∃ t, exec (.statusWord w) s = .next t ∧
      let u := takeStatusWord p word (s.quiet.setWaiting [.write w true])
      t.paths = u.paths ∧ t.routes = u.routes ∧ t.rings = u.rings ∧ t.writeList = u.writeList := by
  obtain ⟨win, offset, ⟨hfree, hblock, hrole, hkind, hwin⟩, rfl, hword⟩ := h
  have hexec : exec (.statusWord w) s = .next (presentWrite w s.quiet) := rfl
  have hsnoop : snoopStatus offset w.tag w.beats (s.quiet.setWaiting [.write w true]) =
      takeStatusWord s.agents[w.tag].path word (s.quiet.setWaiting [.write w true]) := by
    unfold snoopStatus State.snooped
    simp only [setWaiting_agents, quiet_agents, hrole, if_true, hword, Option.map_some]
  refine ⟨_, hexec, ?_⟩
  rw [presentWrite_free w s hfree hblock]
  unfold acceptWrite
  simp [hwin, hkind, hsnoop, offerWrites]

/-- Settles O29: the judgement of the fed record is the statement's table; with none the record alone moves, with one the
path enters its state. -/
theorem statusWordsAreJudgedByState : Obligations.StatusWordsAreJudgedByState := by
  intro s w p word h x rsl lock mod down fade recovered fed verdict
  obtain ⟨t, hexec, hpaths, hroutes, hrings, hlist⟩ := exec_statusWord h
  have hfed : feedCounters s.tb.runNs word (storeStatus word x) = fed := feedCounters_storeStatus ..
  have hverdict : fed.verdict (judgeStatus fed) = verdict := verdict_judgeStatus fed
  refine ⟨t, hexec, ?_⟩
  cases hj : judgeStatus fed with
  | none =>
    have hstays : verdict = (x.state, x.lastCause) := by rw [← hverdict, hj]; rfl
    obtain ⟨y, htake, hstate, hcause⟩ := takeStatusWord_stays (s := s.quiet.setWaiting [.write w true]) hfed hj
    rw [htake] at hpaths hroutes hrings hlist
    have hget : t.paths[p] = y := by rw [hpaths, setPathRec_get, if_pos rfl]
    rw [hget, hstays]
    exact ⟨Prod.ext hstate hcause, fun _ => ⟨hroutes, hrings, hlist⟩, fun hne => absurd rfl hne⟩
  | some change =>
    obtain ⟨new, cause⟩ := change
    have hmoves : verdict = (new, cause.code) := by rw [← hverdict, hj]; rfl
    have hne : new ≠ x.state := judgeStatus_ne (x := fed) hj
    have htake := takeStatusWord_enters (s := s.quiet.setWaiting [.write w true]) hfed hj
    rw [htake] at hpaths hlist
    have hbefore : ((s.quiet.setWaiting [.write w true]).setPathRec p fed).paths[p] = fed := by
      rw [setPathRec_get, if_pos rfl]
    have hget : t.paths[p] = fed.entered s.tb.runNs new cause.code := by
      rw [hpaths, enterState_get, hbefore]
      rfl
    rw [hmoves]
    refine ⟨?_, fun heq => absurd heq hne, fun _ => ⟨hget, fun hmask hroom => ?_⟩⟩
    · rw [hget, entered_state, entered_lastCause]
    · obtain ⟨rest, hrest⟩ := enterState_writeList (s := (s.quiet.setWaiting [.write w true]).setPathRec p fed)
        p new cause hmask hroom
      rw [hbefore, ← hpaths] at hrest
      exact ⟨rest, hlist.trans hrest⟩

end Sys2Proof.Machine

/-! ## Deliveries to the Arrival Merger

What a delivery makes of a merger record, one equation for each case of the distance (R141), and the records of a table
moved forward (R143). -/

namespace Sys2Proof.Machine

/-! ### The table of an advance -/

/-- A table of 64 records moved forward by at least 1 holds 64 records (R143). -/
theorem advanceTable_length {t : List Arrival} {d : Nat} (ht : t.length = 64) (hd : 1 ≤ d) (a : Arrival) :
    (advanceTable t d a).length = 64 := by
  unfold advanceTable
  simp only [List.length_append, List.length_drop, List.length_replicate, List.length_singleton, ht]
  omega

/-- Of a table moved forward, the last record is the new newest one, a record that stays in the window comes down by the
distance, and those between are unseen (R143). -/
theorem advanceTable_getElem? {t : List Arrival} {d i : Nat} (ht : t.length = 64) (hd : 1 ≤ d) (hi : i < 64) (a : Arrival) :
    (advanceTable t d a)[i]? = if i = 63 then some a else if i + d < 64 then t[i + d]? else some unseen := by
  have hkept : (t.drop (min d 64)).length = 64 - min d 64 := by rw [List.length_drop, ht]
  have hold : (t.drop (min d 64) ++ List.replicate (min d 64 - 1) unseen).length = 63 := by
    rw [List.length_append, hkept, List.length_replicate]
    omega
  unfold advanceTable
  by_cases hlast : i = 63
  · rw [if_pos hlast, List.getElem?_append_right (by omega), hold, hlast]
    rfl
  · rw [if_neg hlast, List.getElem?_append_left (by omega)]
    by_cases hstays : i + d < 64
    · rw [if_pos hstays, List.getElem?_append_left (by omega), List.getElem?_drop, Nat.min_eq_left (by omega), Nat.add_comm]
    · rw [if_neg hstays, List.getElem?_append_right (by omega), List.getElem?_replicate, if_pos (by omega)]

/-! ### The case of a delivery -/

section
variable {m : MergeRecord} {seq : BitVec 24} {rd : Reading} {p : Path}

/-- In EMPTY a delivery starts the window (R142). -/
theorem take_of_empty (h : m.tracking = false) : m.take seq rd p = (m.start seq rd p, .win) := if_pos h

/-- A delivery ahead of N advances the window (R141, R143). -/
theorem take_of_ahead (h : m.tracking = true) (hd : 1 ≤ distance m.newest seq) :
    m.take seq rd p = (m.advance seq rd p, .win) := by
  unfold MergeRecord.take
  rw [if_neg (by simp [h]), if_pos hd]

/-- A delivery with a distance from −63 to 0 falls inside the window (R141). -/
theorem take_of_inside (h : m.tracking = true) (hlo : -63 ≤ distance m.newest seq) (hhi : distance m.newest seq ≤ 0) :
    m.take seq rd p = m.inside seq rd p := by
  unfold MergeRecord.take
  rw [if_neg (by simp [h]), if_neg (by omega), if_pos hlo]

/-- A delivery with a distance of −64 or less lies behind the window (R141). -/
theorem take_of_behind (h : m.tracking = true) (hd : distance m.newest seq ≤ -64) :
    m.take seq rd p = m.behind seq rd p := by
  unfold MergeRecord.take
  rw [if_neg (by simp [h]), if_neg (by omega), if_neg (by omega)]

/-! ### Inside the window -/

/-- An unseen sequence is a late first: its record becomes the first arrival's (R144). -/
theorem inside_of_unseen {a : Arrival} (ha : m.table[m.place seq]? = some a) (hseen : a.seen = false) :
    m.inside seq rd p = ({ m with table := m.table.set (m.place seq) (firstArrival rd p) }, .win) := by
  simp [MergeRecord.inside, ha, hseen]

/-- A seen sequence whose late copy is not seen is a late copy: the copy is marked and its race margin handed on
(R145). -/
theorem inside_of_not_late {a : Arrival} (ha : m.table[m.place seq]? = some a) (hseen : a.seen = true)
    (hlate : a.late = false) :
    m.inside seq rd p =
      ({ m with table := m.table.set (m.place seq) { a with late := true } }, .late (raceMargin rd a)) := by
  simp [MergeRecord.inside, ha, hseen, hlate]

/-- A seen sequence whose late copy is seen is a repeat, which is counted alone (R146). -/
theorem inside_of_late {a : Arrival} (ha : m.table[m.place seq]? = some a) (hseen : a.seen = true)
    (hlate : a.late = true) :
    m.inside seq rd p = ({ m with repeats := sat16 (m.repeats + 1) }, .nothing) := by
  simp [MergeRecord.inside, ha, hseen, hlate]

/-! ### Behind the window -/

/-- A count that saturates at 255, with the bound in front. -/
theorem sat8_eq (n : Nat) : sat8 n = min 255 n := Nat.min_comm ..

/-- A stale delivery resyncs where the stale run it makes comes to RESYNC_COUNT (R147). -/
theorem resyncs?_iff : m.resyncs? = true ↔ m.resyncCount ≤ min 255 (m.staleRun + 1) := by
  rw [← sat8_eq]
  exact decide_eq_true_iff

/-- Below RESYNC_COUNT a stale delivery is counted alone (R147). -/
theorem behind_of_below (h : min 255 (m.staleRun + 1) < m.resyncCount) :
    m.behind seq rd p =
      ({ m with stale := min 4294967295 (m.stale + 1), staleRun := min 255 (m.staleRun + 1) }, .nothing) := by
  unfold MergeRecord.behind
  rw [if_neg (fun hr => absurd (resyncs?_iff.1 hr) (by omega)), sat32_eq, sat8_eq]

/-- At RESYNC_COUNT a stale delivery starts the window again at its own sequence and counts as a resync (R148). -/
theorem behind_of_resync (h : m.resyncCount ≤ min 255 (m.staleRun + 1)) :
    m.behind seq rd p =
      ({ m.start seq rd p with
          stale := min 4294967295 (m.stale + 1), resyncs := min 4294967295 (m.resyncs + 1) }, .win) := by
  unfold MergeRecord.behind
  rw [if_pos (resyncs?_iff.2 h), sat32_eq, sat32_eq]
  rfl

/-- In TRACKING a start leaves the window state as it is (R148). -/
theorem start_of_tracking (h : m.tracking = true) :
    m.start seq rd p =
      { m with newest := seq, table := List.replicate 63 unseen ++ [firstArrival rd p], staleRun := 0 } := by
  unfold MergeRecord.start
  rw [← h]
  rfl

end

/-- The race margin's clamp, with the lower bound in front (R145). -/
theorem raceMargin_eq (rd : Reading) (a : Arrival) :
    raceMargin rd a = max (-2147483648)
      (min (((rd.time.sec.toNat : Int) - a.sec.toNat) * 1000000000 + ((rd.time.ns : Int) - a.ns)) 2147483647) := rfl

/-- Settles O36: the case of the distance picks the branch, and each branch is its equation above. -/
theorem deliveriesFallInTheirCases : Obligations.DeliveriesFallInTheirCases := by
  intro m seq rd p hlen d first blank
  refine ⟨take_of_empty, fun htracking hahead => ?advance, fun htracking hlo hhi a ha => ?inside,
    fun htracking hbehind => ?behind⟩
  case advance =>
    have hd : 1 ≤ d.toNat := by omega
    exact ⟨_, take_of_ahead htracking hahead, advanceTable_length hlen hd first,
      fun i hi => advanceTable_getElem? hlen hd hi first⟩
  case inside =>
    rw [take_of_inside htracking hlo hhi, ← raceMargin_eq, ← sat16_eq]
    exact ⟨inside_of_unseen ha, inside_of_not_late ha, inside_of_late ha⟩
  case behind =>
    rw [take_of_behind htracking hbehind]
    refine ⟨behind_of_below, fun hresync => ?_⟩
    rw [behind_of_resync hresync, start_of_tracking htracking]
    rfl

end Sys2Proof.Machine

/-! ## What every step keeps

One relation between the states before and after an operation holds every invariant of the part, with the queue of commands
and the lock level; each operation is shown to keep it once, and the invariants of a step are read off. -/

namespace Sys2Proof.Machine

/-! ### The relation -/

/-- The open-slot lists keep their bound (section 2.2). -/
def State.slotsBounded (s : State) : Prop := ∀ r : Route, s.steer[r].openSlots.length ≤ 4

/-- The pending-arrival lists keep their bound (R74). -/
def State.arrivalsBounded (s : State) : Prop := ∀ p : Path, s.arrivals[p].length ≤ 4

/-- The ring records of the write list keep their bound (R175). -/
def State.recordsBounded (s : State) : Prop := (s.writeList.filter ListItem.isRecord).length ≤ 8

/-- The list bounds are those of the open slots, of the pending arrivals and of the ring records. -/
theorem listsBounded_iff (s : State) :
    s.listsBounded ↔ s.slotsBounded ∧ s.arrivalsBounded ∧ s.recordsBounded := Iff.rfl

/-- From `s` to `t` the queue of commands stays, the lock level does not fall, and every invariant that holds before holds
after. -/
structure Keeps (s t : State) : Prop where
  pending : t.pending = s.pending := by rfl
  lock : s.cu.lockLevel ≤ t.cu.lockLevel := by exact Nat.le_refl _
  queue : s.queueBounded → t.queueBounded := by exact id
  slots : s.slotsBounded → t.slotsBounded := by exact id
  arrivals : s.arrivalsBounded → t.arrivalsBounded := by exact id
  records : s.recordsBounded → t.recordsBounded := by exact id
  mergers : s.mergersWhole → t.mergersWhole := by exact id
  probations : s.probationsCounted → t.probationsCounted := by exact id
  reads : s.readsOrdered → t.readsOrdered := by exact id
  routes : s.routesLegal → t.routesLegal := by exact id
  clock : s.rateBounded → t.rateBounded ∧ (s.timeInRange → t.timeInRange) := by exact fun h => ⟨h, id⟩
  estimates : s.estimatesBounded → t.estimatesBounded := by exact id

theorem Keeps.refl (s : State) : Keeps s s := {}

theorem Keeps.trans {s t u : State} (h : Keeps s t) (k : Keeps t u) : Keeps s u where
  pending := k.pending.trans h.pending
  lock := h.lock.trans k.lock
  queue := k.queue ∘ h.queue
  slots := k.slots ∘ h.slots
  arrivals := k.arrivals ∘ h.arrivals
  records := k.records ∘ h.records
  mergers := k.mergers ∘ h.mergers
  probations := k.probations ∘ h.probations
  reads := k.reads ∘ h.reads
  routes := k.routes ∘ h.routes
  clock hs := ⟨(k.clock (h.clock hs).1).1, (k.clock (h.clock hs).1).2 ∘ (h.clock hs).2⟩
  estimates := k.estimates ∘ h.estimates

/-- The later of two operations first, so that each is found from the state it leads to. -/
theorem Keeps.after {s t u : State} (k : Keeps t u) (h : Keeps s t) : Keeps s u := h.trans k

theorem Keeps.foldl {α : Type} {f : State → α → State} (h : ∀ s a, Keeps s (f s a)) (xs : List α) (s : State) :
    Keeps s (xs.foldl f s) := by
  induction xs generalizing s with
  | nil => exact .refl s
  | cons a as ih => exact (h s a).trans (ih (f s a))

/-- Where only the reports change, the bound of the ring records is all there is to show. -/
theorem OnlyReports.keeps {s t : State} (h : OnlyReports s t) (hr : s.recordsBounded → t.recordsBounded) : Keeps s t := by
  unfold OnlyReports at h
  generalize t.rings = rings, t.writeList = writeList at h
  subst h
  exact { records := hr }

/-- Where only the route records and the reports change, the mode table is to show besides. -/
theorem OnlySelection.keeps {s t : State} (h : OnlySelection s t) (hr : s.recordsBounded → t.recordsBounded)
    (hroutes : s.routesLegal → t.routesLegal) : Keeps s t := by
  unfold OnlySelection at h
  generalize t.routes = routes, t.rings = rings, t.writeList = writeList at h
  subst h
  exact { records := hr, routes := hroutes }

/-- Where the path records change too, so are the probation countdowns and the estimates. -/
theorem OnlyHealth.keeps {s t : State} (h : OnlyHealth s t) (hr : s.recordsBounded → t.recordsBounded)
    (hroutes : s.routesLegal → t.routesLegal) (hp : s.probationsCounted → t.probationsCounted)
    (he : s.estimatesBounded → t.estimatesBounded) : Keeps s t := by
  unfold OnlyHealth at h
  generalize t.paths = paths, t.routes = routes, t.rings = rings, t.writeList = writeList at h
  subst h
  exact { records := hr, routes := hroutes, probations := hp, estimates := he }

/-- Where the Time Base and the reports change, its ranges are to show besides the records. -/
theorem OnlyClock.keeps {s t : State} (h : OnlyClock s t) (hr : s.recordsBounded → t.recordsBounded)
    (hc : s.rateBounded → t.rateBounded ∧ (s.timeInRange → t.timeInRange)) : Keeps s t := by
  unfold OnlyClock at h
  generalize t.tb = tb, t.rings = rings, t.writeList = writeList at h
  subst h
  exact { records := hr, clock := hc }

/-! ### Reports -/

/-- The ring records of the write list. -/
def State.records (s : State) : List ListItem := s.writeList.filter ListItem.isRecord

theorem listStatus_records (s : State) : (listStatus s).records = s.records := by
  unfold listStatus State.records
  split
  · rfl
  · simp [ListItem.isRecord]

theorem setPending_records (k : RingId) (s : State) : (setPending k s).records = s.records := by
  unfold setPending
  split
  · rfl
  · exact listStatus_records _

theorem clearPending_records (k : RingId) (s : State) : (clearPending k s).records = s.records := by
  unfold clearPending
  split
  · exact listStatus_records _
  · rfl

theorem countDrop_records (k : ReportKind) (s : State) : (countDrop k s).records = s.records := by
  have counted : (if s.rings[k.ring].drops < 65535 then
      s.setRing k.ring { s.rings[k.ring] with drops := s.rings[k.ring].drops + 1, number := s.rings[k.ring].number + 1 }
      else s).records = s.records := by split <;> rfl
  unfold countDrop
  dsimp only
  split
  · exact (setPending_records 0 _).trans counted
  · exact counted

/-- A submission lists no ninth record (R175, R178). -/
theorem submit_recordsBounded {r : Report} {s : State} (h : s.recordsBounded) : (submit r s).recordsBounded := by
  unfold submit
  split
  · exact h
  · split
    next hroom =>
      have hlt : (s.writeList.filter ListItem.isRecord).length < 8 := hroom
      have hone : [ListItem.record r].filter ListItem.isRecord = [.record r] := rfl
      unfold State.recordsBounded
      simpa [hone] using hlt
    next => exact (congrArg List.length (countDrop_records r.kind s)).trans_le h

theorem submit_keeps (r : Report) (s : State) : Keeps s (submit r s) := (submit_only r s).keeps submit_recordsBounded

theorem slotEvent_keeps (cause : Nat) (r : Route) (slot : Nat) (b : Option Binding) (o : Time) (tag : Nat) (s : State) :
    Keeps s (slotEvent cause r slot b o tag s) := submit_keeps _ s

theorem memoryError_keeps (cause : Nat) (a : Addr) (tag : Nat) (s : State) : Keeps s (memoryError cause a tag s) :=
  submit_keeps _ s

theorem setPending_keeps (k : RingId) (s : State) : Keeps s (setPending k s) :=
  (setPending_only k s).keeps (fun h => (congrArg List.length (setPending_records k s)).trans_le h)

theorem clearPending_keeps (k : RingId) (s : State) : Keeps s (clearPending k s) :=
  (clearPending_only k s).keeps (fun h => (congrArg List.length (clearPending_records k s)).trans_le h)

theorem countDrop_keeps (k : ReportKind) (s : State) : Keeps s (countDrop k s) :=
  (countDrop_only k s).keeps (fun h => (congrArg List.length (countDrop_records k s)).trans_le h)

/-! ### The mode table of a selection -/

/-- The best of some paths is one of them (R124). -/
theorem best_mem {s : State} {ps : List Path} {p : Path} (h : s.best ps = some p) : p ∈ ps := by
  induction ps generalizing p with
  | nil => simp [State.best] at h
  | cons q qs ih =>
    unfold State.best at h
    split at h
    next => simp_all
    next b hb =>
      split at h
      · obtain rfl := Option.some.inj h
        exact List.mem_cons_of_mem _ (ih hb)
      · obtain rfl := Option.some.inj h
        exact List.mem_cons_self

/-- There is a best wherever there is a path (R124). -/
theorem best_eq_none_iff (s : State) (ps : List Path) : s.best ps = none ↔ ps = [] := by
  cases ps with
  | nil => simp [State.best]
  | cons q qs =>
    unfold State.best
    split
    · simp
    · split <;> simp

/-- The UP candidates with a standby copy are the paths that the list names so and that are UP (R124). -/
theorem mem_upCandidates (s : State) (live : List Candidate) (b : Bool) (except : Option Path) (p : Path) :
    p ∈ s.upCandidates live b except ↔ namesAs live p b = true ∧ s.paths[p].state = .up ∧ except ≠ some p := by
  unfold State.upCandidates namesAs
  simp only [List.mem_map, List.mem_filter, List.any_eq_true, Bool.and_eq_true, beq_iff_eq, bne_iff_ne]
  constructor
  · rintro ⟨c, ⟨hc, ⟨hb, hup⟩, hne⟩, rfl⟩
    exact ⟨⟨c, hc, rfl, hb⟩, hup, hne⟩
  · rintro ⟨⟨c, hc, rfl, hb⟩, hup, hne⟩
    exact ⟨c, ⟨hc, ⟨hb, hup⟩, hne⟩, rfl⟩

/-- A path found among the UP candidates. -/
theorem bestUp_some {s : State} {live : List Candidate} {b : Bool} {except : Option Path} {p : Path}
    (h : s.bestUp live b except = some p) : namesAs live p b = true ∧ s.paths[p].state = .up ∧ except ≠ some p :=
  (mem_upCandidates ..).1 (best_mem h)

/-- No path found: there is no UP candidate. -/
theorem bestUp_none {s : State} {live : List Candidate} {b : Bool} {except : Option Path}
    (h : s.bestUp live b except = none) : s.upCandidates live b except = [] := (best_eq_none_iff ..).1 h

/-- Where there is no UP candidate at all, there is none beside a path. -/
theorem upCandidates_except {s : State} {live : List Candidate} {b : Bool} (h : s.upCandidates live b none = [])
    (a : Path) : s.upCandidates live b (some a) = [] := by
  refine List.eq_nil_iff_forall_not_mem.2 fun p hp => ?_
  obtain ⟨hnames, hup, -⟩ := (mem_upCandidates ..).1 hp
  exact List.eq_nil_iff_forall_not_mem.1 h p ((mem_upCandidates ..).2 ⟨hnames, hup, by simp⟩)

/-- A path named with either standby copy is named. -/
theorem names_of_namesAs {live : List Candidate} {p : Path} {b : Bool} (h : namesAs live p b = true) :
    names live p = true := by
  unfold namesAs at h
  unfold names
  obtain ⟨c, hc, hcp⟩ := List.any_eq_true.1 h
  simp only [Bool.and_eq_true] at hcp
  exact List.any_eq_true.2 ⟨c, hc, hcp.1⟩

/-- The continuing active path is a non-standby candidate in FADING (R124). -/
theorem continuing_some {s : State} {rt : RouteRecord} {a : Path} (h : s.continuing rt = some a) :
    namesAs rt.live a false = true ∧ s.paths[a].state = .fading := by
  unfold State.continuing at h
  split at h
  next b hb =>
    split at h
    next hcond =>
      obtain rfl := Option.some.inj h
      simpa using hcond
    next => cases h
  next => cases h

/-- A full selection obeys the mode table (R123, R125). -/
theorem fullSelection_legal (s : State) (rt : RouteRecord) (n : Nat) :
    s.routeLegal { rt with chosen := s.fullSelection rt, modeChanges := n } := by
  unfold State.fullSelection State.routeLegal
  cases hup : s.bestUp rt.live false none with
  | some a =>
    obtain ⟨hnames, hstate, -⟩ := bestUp_some hup
    exact ⟨hnames, .inl hstate⟩
  | none =>
    cases hcont : s.continuing rt with
    | some a =>
      obtain ⟨hnames, hfading⟩ := continuing_some hcont
      cases hstandby : s.bestUp rt.live true none with
      | some q =>
        obtain ⟨hq, hqup, -⟩ := bestUp_some hstandby
        refine ⟨hnames, hfading, names_of_namesAs hq, hqup, ?_⟩
        rintro rfl
        rw [hfading] at hqup
        cases hqup
      | none =>
        exact ⟨hnames, .inr ⟨hfading, upCandidates_except (bestUp_none hup) a,
          upCandidates_except (bestUp_none hstandby) a⟩⟩
    | none =>
      cases hstandby : s.bestUp rt.live true none with
      | some q =>
        obtain ⟨hq, hqup, -⟩ := bestUp_some hstandby
        exact ⟨hq, hqup⟩
      | none => trivial

/-- MIRROR with what the secondary search finds, or SINGLE, on a FADING active path obeys the mode table (R127, R128). -/
theorem mirrorOrSingle_legal {s : State} {rt : RouteRecord} {a : Path} (hnames : namesAs rt.live a false = true)
    (hfading : s.paths[a].state = .fading) (n : Nat) :
    s.routeLegal { rt with chosen := s.mirrorOrSingle rt.live a, modeChanges := n } := by
  have mirror : ∀ b q, s.bestUp rt.live b (some a) = some q →
      s.routeLegal { rt with chosen := ⟨.mirror, some a, some q⟩, modeChanges := n } := fun b q h => by
    obtain ⟨hq, hqup, hne⟩ := bestUp_some h
    exact ⟨hnames, hfading, names_of_namesAs hq, hqup, fun e => hne (congrArg some e.symm)⟩
  unfold State.mirrorOrSingle State.secondaryFor
  cases hup : s.bestUp rt.live false (some a) with
  | some q => exact mirror false q hup
  | none =>
    cases hstandby : s.bestUp rt.live true (some a) with
    | some q => exact mirror true q hstandby
    | none => exact ⟨hnames, .inr ⟨hfading, bestUp_none hup, bestUp_none hstandby⟩⟩

/-- The mode table reads the live list, the choice and the states of the paths alone. -/
theorem routeLegal_congr {s t : State} {rt rt' : RouteRecord} (hlive : rt'.live = rt.live)
    (hchosen : rt'.chosen = rt.chosen) (hstates : ∀ p : Path, t.paths[p].state = s.paths[p].state) :
    t.routeLegal rt' ↔ s.routeLegal rt := by
  have hcand : ∀ live b except, t.upCandidates live b except = s.upCandidates live b except := fun live b except => by
    unfold State.upCandidates
    simp only [hstates]
  unfold State.routeLegal
  rw [hchosen, hlive]
  simp only [hstates, hcand]

/-- A route record with a legal choice in its place keeps the mode table. -/
theorem setRouteRec_routesLegal {s : State} {r : Route} {x : RouteRecord} (hx : s.routeLegal x) (h : s.routesLegal) :
    (s.setRouteRec r x).routesLegal := by
  intro k
  rw [setRouteRec_get]
  split
  · exact (routeLegal_congr rfl rfl fun _ => rfl).2 hx
  · exact (routeLegal_congr rfl rfl fun _ => rfl).2 (h k)

/-- A route record whose live list and choice stay keeps the mode table. -/
theorem setRouteRec_keeps (s : State) (r : Route) {x : RouteRecord} (hlive : x.live = s.routes[r].live)
    (hchosen : x.chosen = s.routes[r].chosen) : Keeps s (s.setRouteRec r x) :=
  { routes := fun h => setRouteRec_routesLegal ((routeLegal_congr hlive hchosen fun _ => rfl).2 (h r)) h }

/-! ### A route takes a choice -/

theorem choose_recordsBounded {r : Route} {c : RouteCause} {q : Option Path} {n : Choice} {s : State}
    (h : s.recordsBounded) : (choose r c q n s).recordsBounded := by
  unfold choose
  dsimp only
  split
  · exact h
  · exact submit_recordsBounded h

/-- A choice taken is one update of one route record (R136, R137). -/
theorem choose_routes (r : Route) (c : RouteCause) (q : Option Path) (new : Choice) (s : State) :
    ∃ n, (choose r c q new s).routes = s.routes.set r { s.routes[r] with chosen := new, modeChanges := n } := by
  unfold choose
  dsimp only
  split
  next h =>
    refine ⟨s.routes[r].modeChanges, ?_⟩
    rw [h]
    exact (Vector.set_getElem_self r.isLt).symm
  next => exact ⟨_, (submit_only ..).routes⟩

/-- The records after a choice taken: that of its route, and the others as they were. -/
theorem choose_get (r : Route) (c : RouteCause) (q : Option Path) (new : Choice) (s : State) :
    ∃ n, ∀ k : Route, (choose r c q new s).routes[k] =
      if r = k then { s.routes[r] with chosen := new, modeChanges := n } else s.routes[k] := by
  obtain ⟨n, hn⟩ := choose_routes r c q new s
  refine ⟨n, fun k => ?_⟩
  rw [← setRouteRec_get]
  exact congrArg (fun v : Vector RouteRecord 4 => v[k]) hn

/-- A legal choice taken keeps the mode table of every route that has it. -/
theorem choose_legal {r k : Route} {c : RouteCause} {q : Option Path} {new : Choice} {s : State}
    (hnew : r = k → ∀ n, s.routeLegal { s.routes[r] with chosen := new, modeChanges := n })
    (hold : r ≠ k → s.routeLegal s.routes[k]) : (choose r c q new s).routeLegal (choose r c q new s).routes[k] := by
  obtain ⟨n, hget⟩ := choose_get r c q new s
  rw [hget k]
  have hpaths : ∀ p : Path, (choose r c q new s).paths[p].state = s.paths[p].state := fun p => by
    rw [(choose_only ..).paths]
  split
  next h => exact (routeLegal_congr rfl rfl hpaths).2 (hnew h n)
  next h => exact (routeLegal_congr rfl rfl hpaths).2 (hold h)

theorem choose_keeps {r : Route} {new : Choice} {s : State} (c : RouteCause) (q : Option Path)
    (hnew : ∀ n, s.routesLegal → s.routeLegal { s.routes[r] with chosen := new, modeChanges := n }) :
    Keeps s (choose r c q new s) :=
  (choose_only ..).keeps choose_recordsBounded (fun h k => choose_legal (fun _ n => hnew n h) (fun _ => h k))

theorem fullyReselect_keeps (c : RouteCause) (q : Option Path) (r : Route) (s : State) : Keeps s (fullyReselect c q r s) :=
  choose_keeps c q (fun n _ => fullSelection_legal s _ n)

/-! ### Changes of a path's state -/

/-- The changes of state that the rules make: to a state that carries no route; between UP and FADING; from PROBATION to UP;
and to PROBATION from a state that carries no route (section 6.3). -/
def Health.Moves (old new : Health) : Prop :=
  new.lost = true ∨ old = .up ∧ new = .fading ∨ (old = .fading ∨ old = .probation) ∧ new = .up ∨
    old.lost = true ∧ new = .probation

theorem judgeStatus_moves {x : PathRecord} {new : Health} {c : PathCause} (h : judgeStatus x = some (new, c)) :
    x.state.Moves new := by
  unfold judgeStatus at h
  unfold Health.Moves
  cases hx : x.state <;> simp only [hx] at h <;> grind [Health.lost]

theorem judgeDown_moves {x : PathRecord} {cause : PathCause} {new : Health} {c : PathCause}
    (h : judgeDown x cause = some (new, c)) : x.state.Moves new := by
  unfold judgeDown at h
  unfold Health.Moves
  grind [Health.lost]

theorem judgeLosses_moves {x : PathRecord} {new : Health} {c : PathCause} (h : judgeLosses x = some (new, c)) :
    x.state.Moves new := by
  unfold judgeLosses at h
  unfold Health.Moves
  cases hx : x.state <;> simp only [hx] at h <;> grind [Health.lost]

theorem judgeEnable_moves {line : Bool} {x : PathRecord} {new : Health} {c : PathCause}
    (h : judgeEnable line x = some (new, c)) : x.state.Moves new := by
  unfold judgeEnable at h
  unfold Health.Moves
  grind [Health.lost]

theorem judgeCut_moves {cause : PathCause} {x : PathRecord} {new : Health} {c : PathCause}
    (h : judgeCut cause x = some (new, c)) : x.state.Moves new := by
  unfold judgeCut at h
  unfold Health.Moves
  grind [Health.lost]

/-! ### The reselection of a route -/

/-- A path named as a candidate with a standby copy and UP is among the UP candidates beside any other path (R124). -/
theorem bestUp_isSome {s : State} {live : List Candidate} {b : Bool} {q a : Path} (hq : namesAs live q b = true)
    (hup : s.paths[q].state = .up) (hne : q ≠ a) : ∃ x, s.bestUp live b (some a) = some x := by
  cases hx : s.bestUp live b (some a) with
  | some x => exact ⟨x, rfl⟩
  | none =>
    have hmem : q ∈ s.upCandidates live b (some a) :=
      (mem_upCandidates ..).2 ⟨hq, hup, fun e => hne (Option.some.inj e).symm⟩
    rw [bestUp_none hx] at hmem
    cases hmem

section
variable {s t : State} {q : Path} {new : Health} {rt : RouteRecord}

/-- A set of candidates without an UP path stays so when a path takes a state other than UP. -/
theorem upCandidates_eq_nil_of_ne_up {live : List Candidate} {b : Bool} {except : Option Path}
    (hq : t.paths[q].state = new) (hothers : ∀ p : Path, p ≠ q → t.paths[p].state = s.paths[p].state)
    (hnew : new ≠ .up) (h : s.upCandidates live b except = []) : t.upCandidates live b except = [] := by
  refine List.eq_nil_iff_forall_not_mem.2 fun p hp => ?_
  obtain ⟨hnames, hup, hne⟩ := (mem_upCandidates ..).1 hp
  have hpq : p ≠ q := by
    rintro rfl
    exact hnew (hq.symm.trans hup)
  rw [hothers p hpq] at hup
  exact List.eq_nil_iff_forall_not_mem.1 h p ((mem_upCandidates ..).2 ⟨hnames, hup, hne⟩)

/-- What the reselection makes of a route's choice: the choice it decides, or the present one. -/
def State.reselected (t : State) (rt : RouteRecord) (q : Path) (old new : Health) : Choice :=
  match t.reselection rt q old new with
  | some (_, c) => c
  | none => rt.chosen

variable (hq : t.paths[q].state = new) (hothers : ∀ p : Path, p ≠ q → t.paths[p].state = s.paths[p].state)
  (hmoves : s.paths[q].state.Moves new)
include hq hothers hmoves

/-- The reselection of a SINGLE route restores the mode table (R127). -/
theorem reselected_single_legal {a : Path} (hchosen : rt.chosen = ⟨.single, some a, none⟩) (h : s.routeLegal rt) (n : Nat) :
    t.routeLegal { rt with chosen := t.reselected rt q s.paths[q].state new, modeChanges := n } := by
  have hlegal := h
  unfold State.routeLegal at hlegal
  rw [hchosen] at hlegal
  obtain ⟨hnames, hstate⟩ := hlegal
  have stays : t.paths[a].state = .up ∨ t.paths[a].state = .fading ∧ t.upCandidates rt.live false (some a) = [] ∧
      t.upCandidates rt.live true (some a) = [] →
      t.routeLegal { rt with chosen := rt.chosen, modeChanges := n } := fun hs => by
    unfold State.routeLegal
    rw [hchosen]
    exact ⟨hnames, hs⟩
  unfold State.reselected State.reselection State.reselectSingle
  simp only [hchosen]
  by_cases ha : q = a
  · subst ha
    rw [if_pos rfl]
    by_cases hlost : new.lost = true
    · rw [if_pos hlost]
      exact fullSelection_legal t rt n
    · rw [if_neg hlost]
      by_cases hfade : s.paths[q].state = .up ∧ new = .fading
      · rw [if_pos hfade]
        exact mirrorOrSingle_legal hnames (hq.trans hfade.2) n
      · rw [if_neg hfade]
        have hnewup : new = .up := by
          rcases hmoves with hl | hf | ⟨_, hu⟩ | ⟨hold, _⟩
          · exact absurd hl hlost
          · exact absurd hf hfade
          · exact hu
          · rcases hstate with hs | ⟨hs, -⟩ <;> rw [hs] at hold <;> cases hold
        simpa [hchosen] using stays (.inl (hq.trans hnewup))
  · rw [if_neg ha]
    have haold := hothers a (Ne.symm ha)
    by_cases hcand : new = .up ∧ t.paths[a].state = .fading
    · rw [if_pos hcand]
      exact mirrorOrSingle_legal hnames hcand.2 n
    · rw [if_neg hcand]
      have hs : t.paths[a].state = .up ∨ t.paths[a].state = .fading ∧ t.upCandidates rt.live false (some a) = [] ∧
          t.upCandidates rt.live true (some a) = [] := by
        rcases hstate with hup | ⟨hfading, hnone, hnone'⟩
        · exact .inl (haold.trans hup)
        · have hnew : new ≠ .up := fun e => hcand ⟨e, haold.trans hfading⟩
          exact .inr ⟨haold.trans hfading, upCandidates_eq_nil_of_ne_up hq hothers hnew hnone,
            upCandidates_eq_nil_of_ne_up hq hothers hnew hnone'⟩
      simpa [hchosen] using stays hs

/-- The reselection of a MIRROR route restores the mode table (R128). -/
theorem reselected_mirror_legal {a b : Path} (hchosen : rt.chosen = ⟨.mirror, some a, some b⟩) (h : s.routeLegal rt)
    (n : Nat) : t.routeLegal { rt with chosen := t.reselected rt q s.paths[q].state new, modeChanges := n } := by
  have hlegal := h
  unfold State.routeLegal at hlegal
  rw [hchosen] at hlegal
  obtain ⟨hnames, hfading, hb, hbup, hba⟩ := hlegal
  have stays : t.paths[a].state = .fading → t.paths[b].state = .up →
      t.routeLegal { rt with chosen := rt.chosen, modeChanges := n } := fun ha hb' => by
    unfold State.routeLegal
    rw [hchosen]
    exact ⟨hnames, ha, hb, hb', hba⟩
  unfold State.reselected State.reselection State.reselectMirror
  simp only [hchosen]
  by_cases ha : q = a
  · subst ha
    rw [if_pos rfl]
    by_cases hlost : new.lost = true
    · rw [if_pos hlost]
      exact fullSelection_legal t rt n
    · have hnewup : new = .up := by
        rcases hmoves with hl | ⟨hu, _⟩ | ⟨_, hu⟩ | ⟨hold, _⟩
        · exact absurd hl hlost
        · rw [hfading] at hu
          cases hu
        · exact hu
        · rw [hfading] at hold
          cases hold
      rw [if_neg hlost, if_pos hnewup]
      exact ⟨hnames, .inl (hq.trans hnewup)⟩
  · rw [if_neg ha]
    have hafading : t.paths[a].state = .fading := (hothers a (Ne.symm ha)).trans hfading
    by_cases hqb : q = b
    · subst hqb
      rw [if_pos rfl]
      by_cases hlost : s.paths[q].state = .up ∧ new ≠ .up
      · rw [if_pos hlost]
        exact mirrorOrSingle_legal hnames hafading n
      · rw [if_neg hlost]
        have hnewup : new = .up := not_not.1 fun e => hlost ⟨hbup, e⟩
        simpa [hchosen] using stays hafading (hq.trans hnewup)
    · rw [if_neg hqb]
      by_cases hbetter : new = .up ∧ namesAs rt.live b true = true ∧ namesAs rt.live q false = true
      · rw [if_pos hbetter]
        obtain ⟨x, hx⟩ := bestUp_isSome hbetter.2.2 (hq.trans hbetter.1) ha
        obtain ⟨hxnames, hxup, hxa⟩ := bestUp_some hx
        simp only [hx]
        exact ⟨hnames, hafading, names_of_namesAs hxnames, hxup, fun e => hxa (congrArg some e.symm)⟩
      · rw [if_neg hbetter]
        simpa [hchosen] using stays hafading ((hothers b (Ne.symm hqb)).trans hbup)

/-- The reselection of a FALLBACK route restores the mode table (R129). -/
theorem reselected_fallback_legal {a : Path} (hchosen : rt.chosen = ⟨.fallback, some a, none⟩) (h : s.routeLegal rt)
    (n : Nat) : t.routeLegal { rt with chosen := t.reselected rt q s.paths[q].state new, modeChanges := n } := by
  have hlegal := h
  unfold State.routeLegal at hlegal
  rw [hchosen] at hlegal
  obtain ⟨hnames, hup⟩ := hlegal
  unfold State.reselected State.reselection State.reselectFallback
  simp only [hchosen]
  by_cases hlost : some a = some q ∧ new ≠ .up
  · rw [if_pos hlost]
    exact fullSelection_legal t rt n
  · rw [if_neg hlost]
    have hstays : t.paths[a].state = .up := by
      by_cases ha : a = q
      · subst ha
        exact hq.trans (not_not.1 fun e => hlost ⟨rfl, e⟩)
      · exact (hothers a ha).trans hup
    exact ⟨hnames, hstays⟩

/-- The reselection of a route that names the changed path restores the mode table, whatever its mode (R126). -/
theorem reselected_legal (h : s.routeLegal rt) (n : Nat) :
    t.routeLegal { rt with chosen := t.reselected rt q s.paths[q].state new, modeChanges := n } := by
  rcases hc : rt.chosen with ⟨mode, active, secondary⟩
  have hlegal := h
  unfold State.routeLegal at hlegal
  rw [hc] at hlegal
  rcases mode with _ | _ | _ | _ <;> rcases active with _ | a <;> rcases secondary with _ | b
  case single.some.none => exact reselected_single_legal hq hothers hmoves hc h n
  case mirror.some.some => exact reselected_mirror_legal hq hothers hmoves hc h n
  case fallback.some.none => exact reselected_fallback_legal hq hothers hmoves hc h n
  case dark.none.none =>
    unfold State.reselected State.reselection State.reselectDark
    simp only [hc]
    by_cases hup : new = .up
    · rw [if_pos hup]
      exact fullSelection_legal t rt n
    · rw [if_neg hup]
      trivial
  all_goals exact hlegal.elim

end

/-! ### The reselection of every route -/

/-- The mode table reads the states of the paths that the live list names alone. -/
theorem routeLegal_of_named {s t : State} {rt : RouteRecord}
    (hstates : ∀ p : Path, names rt.live p = true → t.paths[p].state = s.paths[p].state) (h : s.routeLegal rt) :
    t.routeLegal rt := by
  have hcand : ∀ b except, s.upCandidates rt.live b except = [] → t.upCandidates rt.live b except = [] :=
    fun b except hnil => by
      refine List.eq_nil_iff_forall_not_mem.2 fun p hp => ?_
      obtain ⟨hnames, hup, hne⟩ := (mem_upCandidates ..).1 hp
      rw [hstates p (names_of_namesAs hnames)] at hup
      exact List.eq_nil_iff_forall_not_mem.1 hnil p ((mem_upCandidates ..).2 ⟨hnames, hup, hne⟩)
  unfold State.routeLegal at h ⊢
  split at h
  next a _ =>
    obtain ⟨hnames, hstate⟩ := h
    refine ⟨hnames, ?_⟩
    rw [hstates a (names_of_namesAs hnames)]
    exact hstate.imp id fun ⟨hf, h1, h2⟩ => ⟨hf, hcand _ _ h1, hcand _ _ h2⟩
  next a b _ =>
    obtain ⟨hnames, hfading, hb, hbup, hba⟩ := h
    exact ⟨hnames, (hstates a (names_of_namesAs hnames)).trans hfading, hb, (hstates b hb).trans hbup, hba⟩
  next a _ =>
    obtain ⟨hnames, hup⟩ := h
    exact ⟨hnames, (hstates a (names_of_namesAs hnames)).trans hup⟩
  next => trivial
  next => exact h.elim

theorem reselectRoute_recordsBounded {q : Path} {old new : Health} {r : Route} {s : State} (h : s.recordsBounded) :
    (reselectRoute q old new r s).recordsBounded := by
  unfold reselectRoute
  split
  · split
    · exact choose_recordsBounded h
    · exact h
  · exact h

theorem reselect_recordsBounded {q : Path} {old new : Health} {s : State} (h : s.recordsBounded) :
    (reselect q old new s).recordsBounded := by
  unfold reselect
  induction allRoutes generalizing s with
  | nil => exact h
  | cons r rs ih => exact ih (reselectRoute_recordsBounded h)

/-- The reselection of a route changes that route's record alone. -/
theorem reselectRoute_other (q : Path) (old new : Health) {r k : Route} (hrk : r ≠ k) (s : State) :
    (reselectRoute q old new r s).routes[k] = s.routes[k] := by
  unfold reselectRoute
  split
  · split
    next cause c _ =>
      obtain ⟨n, hn⟩ := choose_get r cause (some q) c s
      exact (hn k).trans (if_neg hrk)
    next => rfl
  · rfl

section
variable (s u : State) (q : Path) (new : Health) (hq : u.paths[q].state = new)
  (hothers : ∀ p : Path, p ≠ q → u.paths[p].state = s.paths[p].state) (hmoves : s.paths[q].state.Moves new)
include hq hothers hmoves

/-- The reselection of a route restores its mode table after a change of one path's state (R126). -/
theorem reselectRoute_legal {r : Route} (h : s.routeLegal u.routes[r]) :
    (reselectRoute q s.paths[q].state new r u).routeLegal
      (reselectRoute q s.paths[q].state new r u).routes[r] := by
  unfold reselectRoute
  split
  next hnamed =>
    have hlegal := reselected_legal hq hothers hmoves h
    unfold State.reselected at hlegal
    split
    next cause c hc =>
      rw [hc] at hlegal
      exact choose_legal (fun _ n => hlegal n) (fun hne => absurd rfl hne)
    next hc =>
      rw [hc] at hlegal
      exact hlegal u.routes[r].modeChanges
  next hnot =>
    refine routeLegal_of_named (fun p hp => hothers p ?_) h
    rintro rfl
    exact hnot hp

/-- Route by route, the reselections restore the mode table of every route (R126). -/
theorem foldl_reselectRoute_legal (rs : List Route) (hrs : rs.Nodup)
    (h : ∀ k : Route, if k ∈ rs then s.routeLegal u.routes[k] else u.routeLegal u.routes[k]) :
    ∀ t, t = rs.foldl (fun x r => reselectRoute q s.paths[q].state new r x) u → t.routesLegal := by
  induction rs generalizing u with
  | nil =>
    rintro t rfl k
    simpa using h k
  | cons r rs ih =>
    have hpaths := (reselectRoute_only q s.paths[q].state new r u).paths
    refine ih _ (by rw [hpaths]; exact hq) (fun p hp => by rw [hpaths]; exact hothers p hp) hrs.of_cons fun k => ?_
    have hk := h k
    by_cases hrk : r = k
    · subst hrk
      rw [if_neg hrs.notMem]
      rw [if_pos List.mem_cons_self] at hk
      exact reselectRoute_legal s u q new hq hothers hmoves hk
    · rw [reselectRoute_other q _ new hrk u]
      have hmem : k ∈ r :: rs ↔ k ∈ rs := by simp [Ne.symm hrk]
      simp only [hmem] at hk
      split
      next hin => rwa [if_pos hin] at hk
      next hout =>
        rw [if_neg hout] at hk
        exact (routeLegal_congr rfl rfl fun p => by rw [hpaths]).2 hk

end

/-- The reselections restore the mode table after a change of one path's state (R126). -/
theorem reselect_legal (s u : State) (q : Path) (new : Health) (hq : u.paths[q].state = new)
    (hothers : ∀ p : Path, p ≠ q → u.paths[p].state = s.paths[p].state) (hmoves : s.paths[q].state.Moves new)
    (hroutes : u.routes = s.routes) (h : s.routesLegal) :
    ∀ t, t = reselect q s.paths[q].state new u → t.routesLegal := by
  refine foldl_reselectRoute_legal s u q new hq hothers hmoves allRoutes (by decide) fun k => ?_
  have hmem : k ∈ allRoutes := by
    revert k
    decide
  rw [if_pos hmem, hroutes]
  exact h k

/-! ### Entries to a state -/

/-- A path record as the probation bounds want it (R100, R110). -/
def PathRecord.ProbationCounted (x : PathRecord) : Prop :=
  1 ≤ x.hs.probation ∧ (x.state = .probation → 1 ≤ x.countdown)

/-- Where one path record is replaced, the probation bounds and the estimates are those of the new record. -/
theorem probationsCounted_set {s t : State} {p : Path} {x : PathRecord} (h : t.paths = s.paths.set p x)
    (hx : s.paths[p].ProbationCounted → x.ProbationCounted) : s.probationsCounted → t.probationsCounted := by
  intro hs q
  rw [h, show (s.paths.set p x)[q] = if p = q then x else s.paths[q] from setPathRec_get s p q x]
  split
  · exact hx (hs p)
  · exact hs q

theorem estimatesBounded_set {s t : State} {p : Path} {x : PathRecord} (h : t.paths = s.paths.set p x)
    (he : t.estimator = s.estimator)
    (hx : s.paths[p].est.getD 0 ≤ 16 * s.estimator.maxPlausible → x.est.getD 0 ≤ 16 * s.estimator.maxPlausible) :
    s.estimatesBounded → t.estimatesBounded := by
  intro hs q
  rw [h, he, show (s.paths.set p x)[q] = if p = q then x else s.paths[q] from setPathRec_get s p q x]
  split
  · exact hx (hs p)
  · exact hs q

/-- An update of a path record that leaves the path's state keeps everything, where it keeps the probation bounds and the
estimate. -/
theorem setPathRec_keeps {s : State} {p : Path} {x : PathRecord} (hstate : x.state = s.paths[p].state)
    (hp : s.paths[p].ProbationCounted → x.ProbationCounted)
    (he : s.paths[p].est.getD 0 ≤ 16 * s.estimator.maxPlausible → x.est.getD 0 ≤ 16 * s.estimator.maxPlausible) :
    Keeps s (s.setPathRec p x) where
  probations := probationsCounted_set rfl hp
  estimates := estimatesBounded_set rfl rfl he
  routes h k := (routeLegal_congr rfl rfl fun q => by
    rw [setPathRec_get]
    split
    next hpq => rw [← hpq, hstate]
    next => rfl).2 (h k)

/-- An entry leaves the probation bounds: a path enters PROBATION with its full countdown (R110). -/
theorem entered_probationCounted {x : PathRecord} (run : Nat) (new : Health) (cause : Nat) (h : 1 ≤ x.hs.probation) :
    (x.entered run new cause).ProbationCounted := by
  cases new
  case probation => exact ⟨h, fun _ => h⟩
  all_goals exact ⟨h, fun hstate => nomatch hstate⟩

/-- An entry leaves the estimate or drops it (R84). -/
theorem entered_est (x : PathRecord) (run : Nat) (new : Health) (cause : Nat) :
    (x.entered run new cause).est = x.est ∨ (x.entered run new cause).est = none := by
  cases new
  case probation => exact .inr rfl
  all_goals exact .inl rfl

theorem enterState_recordsBounded {p : Path} {new : Health} {cause : PathCause} {s : State} (h : s.recordsBounded) :
    (enterState p new cause s).recordsBounded := by
  rw [enterState_eq]
  exact reselect_recordsBounded (submit_recordsBounded (s := s.setPathRec p _) h)

/-- A change of state, on a path whose record was changed in other respects before, keeps everything (R112, R126). -/
theorem enterState_setPathRec_keeps {s : State} {p : Path} {x : PathRecord} {new : Health} (cause : PathCause)
    (hstate : x.state = s.paths[p].state) (hprob : x.hs.probation = s.paths[p].hs.probation)
    (hest : x.est = s.paths[p].est) (hmoves : s.paths[p].state.Moves new) :
    Keeps s (enterState p new cause (s.setPathRec p x)) := by
  have hget : (s.setPathRec p x).paths[p] = x := by simp
  have hpaths : (enterState p new cause (s.setPathRec p x)).paths = s.paths.set p (x.entered s.tb.runNs new cause.code) := by
    rw [enterState_paths, entryChanges_entered, hget]
    simp
  refine ((setPathRec_only s p x).trans (enterState_only ..)).keeps ?records ?routes ?probations ?estimates
  case probations =>
    exact probationsCounted_set hpaths fun h => entered_probationCounted _ _ _ (hprob ▸ h.1)
  case estimates =>
    refine estimatesBounded_set hpaths ((setPathRec_only s p x).trans (enterState_only ..)).estimator fun h => ?_
    rcases entered_est x s.tb.runNs new cause.code with hx | hx <;> rw [hx]
    · rwa [hest]
    · exact Nat.zero_le _
  case records => exact fun h => enterState_recordsBounded (s := s.setPathRec p x) h
  case routes =>
    intro h
    rw [enterState_eq, hget, hstate]
    set u := submit (State.changeReport _ _ _ _) _ with hu
    have hupaths : u.paths = (s.paths.set p x).set p (x.entered s.tb.runNs new cause.code) := (submit_only ..).paths
    generalize ht : reselect p s.paths[p].state new u = t
    refine reselect_legal s u p new ?_ (fun q hq => ?_) hmoves (submit_only ..).routes h t ht.symm
    · rw [hupaths]
      simpa using entered_state ..
    · rw [hupaths]
      have hne : (p : Nat) ≠ q := fun e => hq (Fin.ext e.symm)
      simp [hne]

/-- A change of state keeps everything (R112, R126). -/
theorem enterState_keeps {s : State} {p : Path} {new : Health} (cause : PathCause) (hmoves : s.paths[p].state.Moves new) :
    Keeps s (enterState p new cause s) := by
  have h := enterState_setPathRec_keeps (x := s.paths[p]) cause rfl rfl rfl hmoves
  rwa [show s.setPathRec p s.paths[p] = s by simp [State.setPathRec]] at h

theorem enterIf_keeps {s : State} {p : Path} {change : Option (Health × PathCause)}
    (h : ∀ new c, change = some (new, c) → s.paths[p].state.Moves new) : Keeps s (enterIf p change s) := by
  unfold enterIf
  split
  next new c => exact enterState_keeps c (h new c rfl)
  next => exact .refl s

/-! ### The Path Monitor -/

/-- An update of a path record that leaves state, probation length, countdown and estimate keeps everything. -/
theorem setPathRec_keeps_of_eq {s : State} {p : Path} {x : PathRecord} (hstate : x.state = s.paths[p].state)
    (hprob : x.hs.probation = s.paths[p].hs.probation) (hcount : x.countdown = s.paths[p].countdown)
    (hest : x.est = s.paths[p].est) : Keeps s (s.setPathRec p x) :=
  setPathRec_keeps hstate (fun h => by unfold PathRecord.ProbationCounted; rw [hstate, hprob, hcount]; exact h)
    (fun h => by rwa [hest])

/-- A change of state after such an update, if there is one. -/
theorem enterIf_setPathRec_keeps {s : State} {p : Path} {x : PathRecord} {change : Option (Health × PathCause)}
    (hstate : x.state = s.paths[p].state) (hprob : x.hs.probation = s.paths[p].hs.probation)
    (hcount : x.countdown = s.paths[p].countdown) (hest : x.est = s.paths[p].est)
    (h : ∀ new c, change = some (new, c) → s.paths[p].state.Moves new) :
    Keeps s (enterIf p change (s.setPathRec p x)) := by
  unfold enterIf
  split
  next new c => exact enterState_setPathRec_keeps c hstate hprob hest (h new c rfl)
  next => exact setPathRec_keeps_of_eq hstate hprob hcount hest

theorem countPath_keeps (p : Path) (f : PathCounts → PathCounts) (s : State) : Keeps s (countPath p f s) :=
  setPathRec_keeps_of_eq rfl rfl rfl rfl

theorem takeStatusWord_keeps (p : Path) (w : Word) (s : State) : Keeps s (takeStatusWord p w s) := by
  unfold takeStatusWord
  dsimp only
  split
  · exact setPathRec_keeps_of_eq rfl rfl rfl rfl
  · exact enterIf_setPathRec_keeps rfl rfl rfl rfl (fun _ _ h => (judgeStatus_moves h :))

theorem expireTimer_keeps (p : Path) (s : State) : Keeps s (expireTimer p s) :=
  enterIf_setPathRec_keeps rfl rfl rfl rfl (fun _ _ h => judgeDown_moves h)

theorem lossCheck_keeps (p : Path) (s : State) : Keeps s (lossCheck p s) := enterIf_keeps fun _ _ h => judgeLosses_moves h

theorem judgeProbation_keeps {p : Path} {s : State} (h : s.paths[p].state = .probation) : Keeps s (judgeProbation p s) := by
  unfold judgeProbation
  split
  · exact enterState_keeps _ (.inr (.inr (.inl ⟨.inr h, rfl⟩)))
  · exact setPathRec_keeps rfl (fun h => ⟨h.1, fun _ => h.1⟩) id

/-- The probation countdown judges a path in the event that brings its countdown to 0 (R110). -/
theorem countProbation_keeps (p : Path) (s : State) : Keeps s (countProbation p s) := by
  unfold countProbation
  split
  next hstate =>
    split
    next =>
      unfold judgeProbation countDown
      split
      · exact enterState_setPathRec_keeps _ rfl rfl rfl (.inr (.inr (.inl ⟨.inr hstate, rfl⟩)))
      · have htwice : ∀ x y, (s.setPathRec p x).setPathRec p y = s.setPathRec p y := fun x y => by
          simp [State.setPathRec]
        rw [htwice]
        exact setPathRec_keeps (by simp) (fun h => by simpa [PathRecord.ProbationCounted] using ⟨h.1, fun _ => h.1⟩) (by simp)
    next hmore => exact setPathRec_keeps rfl (fun h => ⟨h.1, fun _ => by dsimp only; omega⟩) id
  next => exact .refl s

theorem ageFarEnd_keeps (p : Path) (s : State) : Keeps s (ageFarEnd p s) := setPathRec_keeps_of_eq rfl rfl rfl rfl

theorem takeFarEnd_keeps (p : Path) (n : Nat) (s : State) : Keeps s (takeFarEnd p n s) := by
  refine enterIf_setPathRec_keeps rfl rfl rfl rfl fun new c h => ?_
  split at h
  · exact judgeDown_moves h
  · cases h

theorem rollPath_keeps (p : Path) (s : State) : Keeps s (rollPath p s) := setPathRec_keeps_of_eq rfl rfl rfl rfl

theorem monitorUpdate_keeps (p : Path) (s : State) : Keeps s (monitorUpdate p s) :=
  (((lossCheck_keeps p s).trans (countProbation_keeps p _)).trans (ageFarEnd_keeps p _)).trans (rollPath_keeps p _)

theorem enablePath_keeps (p : Path) (s : State) : Keeps s (enablePath p s) := enterIf_keeps fun _ _ h => judgeEnable_moves h

theorem disablePath_keeps (p : Path) (s : State) : Keeps s (disablePath p s) := by
  refine enterIf_keeps fun new c h => ?_
  split at h
  · cases h
  · cases h
    exact .inl rfl

theorem forceDown_keeps (p : Path) (s : State) : Keeps s (forceDown p s) := by
  unfold forceDown
  split
  · exact setPathRec_keeps_of_eq rfl rfl rfl rfl
  · exact enterIf_keeps fun _ _ h => judgeDown_moves h

/-- A path released from CUT goes to PROBATION (R158, R159). -/
theorem moves_of_released {x : PathRecord} {b : Prop} [Decidable b] {cause : PathCause} {new : Health} {c : PathCause}
    (h : (if x.state = .cut ∧ b then some (Health.probation, cause) else none) = some (new, c)) : x.state.Moves new := by
  split at h
  next hcut =>
    cases h
    rw [hcut.1]
    exact .inr (.inr (.inr ⟨rfl, rfl⟩))
  next => cases h

theorem releaseCut_keeps (p : Path) (s : State) : Keeps s (releaseCut p s) := enterIf_keeps fun _ _ h => moves_of_released h

theorem releasePath_keeps (p : Path) (s : State) : Keeps s (releasePath p s) :=
  enterIf_keeps fun _ _ h => moves_of_released h

theorem autoRelease_keeps (s : State) : Keeps s (autoRelease s) := by
  unfold autoRelease
  split
  · exact .refl s
  · exact Keeps.foldl (fun s p => releasePath_keeps p s) _ s

theorem cutEvent_keeps (c : PathCause) (s : State) : Keeps s (cutEvent c s) :=
  Keeps.foldl (fun _ _ => enterIf_keeps fun _ _ h => judgeCut_moves h) _ s

/-! ### The Route Selector -/

theorem copyIntoRoute_get (p : Path) (flag : Bool) (s : State) (r k : Route) :
    (copyIntoRoute p flag s r).routes[k] =
      if r = k then { s.routes[r] with live := copyStandby p flag s.routes[r].live } else s.routes[k] :=
  setRouteRec_get s r k _

/-- Route by route, the standby copies are made in the routes of a list (R120). -/
theorem foldl_copyIntoRoute_get (p : Path) (flag : Bool) (rs : List Route) (hrs : rs.Nodup) (s : State) (k : Route) :
    (rs.foldl (copyIntoRoute p flag) s).routes[k] =
      if k ∈ rs then { s.routes[k] with live := copyStandby p flag s.routes[k].live } else s.routes[k] := by
  induction rs generalizing s with
  | nil => simp
  | cons r rs ih =>
    rw [List.foldl_cons, ih hrs.of_cons, copyIntoRoute_get]
    by_cases hrk : r = k
    · subst hrk
      simp [hrs.notMem]
    · simp [hrk, Ne.symm hrk]

/-- A list that does not name a path has no copy of its standby flag (R120). -/
theorem copyStandby_of_not_named {p : Path} {flag : Bool} {live : List Candidate} (h : ¬ names live p = true) :
    copyStandby p flag live = live := by
  unfold copyStandby
  refine (List.map_congr_left fun c hc => ?_).trans (List.map_id _)
  have hcp : c.path ≠ p := fun e => h (List.any_eq_true.2 ⟨c, hc, by simpa using e⟩)
  simp [hcp]

theorem reselectNamed_recordsBounded {p : Path} {s : State} {r : Route} (h : s.recordsBounded) :
    (reselectNamed p s r).recordsBounded := by
  unfold reselectNamed
  split
  · exact choose_recordsBounded h
  · exact h

/-- A reselection of a route by its standby copies leaves every other route's record. -/
theorem reselectNamed_other (p : Path) (s : State) {r k : Route} (hrk : r ≠ k) :
    (reselectNamed p s r).routes[k] = s.routes[k] := by
  unfold reselectNamed
  split
  · obtain ⟨n, hn⟩ := choose_get r .standbyChanged (some p) (s.fullSelection s.routes[r]) s
    exact (hn k).trans (if_neg hrk)
  · rfl

/-- Route by route, the full selections restore the mode table of every route that names the path (R120). -/
theorem foldl_reselectNamed_legal (p : Path) (rs : List Route) (u : State)
    (h : ∀ k : Route, u.routeLegal u.routes[k] ∨ k ∈ rs ∧ names u.routes[k].live p = true) :
    ∀ t, t = rs.foldl (reselectNamed p) u → t.routesLegal := by
  induction rs generalizing u with
  | nil =>
    rintro t rfl k
    simpa using h k
  | cons r rs ih =>
    refine ih (reselectNamed p u r) fun k => ?_
    have hpaths := (reselectNamed_only p u r).paths
    by_cases hrk : r = k
    · subst hrk
      refine .inl ?_
      unfold reselectNamed
      split
      next => exact choose_legal (fun _ n => fullSelection_legal u _ n) (fun hne => absurd rfl hne)
      next hnot => exact (h r).resolve_right fun hn => hnot hn.2
    · rw [reselectNamed_other p u hrk]
      rcases h k with hl | ⟨hmem, hn⟩
      · exact .inl ((routeLegal_congr rfl rfl fun q => by rw [hpaths]).2 hl)
      · exact .inr ⟨(List.mem_cons.1 hmem).resolve_left (Ne.symm hrk), hn⟩

/-- A change of standby renews every selection that it touches (R120). -/
theorem standbyChanged_keeps (p : Path) (flag : Bool) (s : State) : Keeps s (standbyChanged p flag s) := by
  refine (standbyChanged_only p flag s).keeps (fun h => ?records) (fun h => ?routes)
  case records =>
    unfold standbyChanged
    have hcopied : (allRoutes.foldl (copyIntoRoute p flag) s).recordsBounded := by
      induction allRoutes generalizing s with
      | nil => exact h
      | cons r rs ih => exact ih (copyIntoRoute p flag s r) h
    generalize allRoutes.foldl (copyIntoRoute p flag) s = u at hcopied ⊢
    induction allRoutes generalizing u with
    | nil => exact hcopied
    | cons r rs ih => exact ih _ (reselectNamed_recordsBounded hcopied)
  case routes =>
    unfold standbyChanged
    have hpaths := (OnlySelection.foldl (copyIntoRoute_only p flag) allRoutes s).paths
    have hget := foldl_copyIntoRoute_get p flag allRoutes (by decide) s
    generalize allRoutes.foldl (copyIntoRoute p flag) s = u at hpaths hget ⊢
    generalize ht : allRoutes.foldl (reselectNamed p) u = t
    refine foldl_reselectNamed_legal p allRoutes u (fun k => ?_) t ht.symm
    have hmem : k ∈ allRoutes := by
      revert k
      decide
    rw [hget k, if_pos hmem]
    by_cases hnamed : names (copyStandby p flag s.routes[k].live) p = true
    · exact .inr ⟨hmem, hnamed⟩
    · have hlive : ¬ names s.routes[k].live p = true := by
        intro hn
        obtain ⟨c, hc, hcp⟩ := List.any_eq_true.1 hn
        refine hnamed (List.any_eq_true.2 ⟨_, List.mem_map.2 ⟨c, hc, rfl⟩, ?_⟩)
        split <;> exact hcp
      refine .inl ((routeLegal_congr (s := s) (rt := s.routes[k]) ?_ ?_ fun q => by rw [hpaths]).2 (h k))
      · exact copyStandby_of_not_named hlive
      · rfl

theorem installRoute_keeps (r : Route) (s : State) : Keeps s (installRoute r s) := by
  refine (installRoute_only r s).keeps (fun h => ?_) (fun h k => ?_) <;> rw [installRoute_eq] <;> unfold State.routeInstalled
  · split
    · exact choose_recordsBounded (s := s.setRouteRec r _) h
    · exact h
  · split
    · refine choose_legal (fun _ n => ?_) (fun hrk => ?_)
      · have hself : (s.setRouteRec r (s.routes[r].installed s)).routes[r] = s.routes[r].installed s := by simp
        rw [hself]
        exact (routeLegal_congr (s := s) rfl rfl fun _ => rfl).2 (fullSelection_legal s (s.routes[r].installed s) n)
      · rw [setRouteRec_get, if_neg hrk]
        exact (routeLegal_congr (s := s) rfl rfl fun _ => rfl).2 (h k)
    · exact h k

theorem rerank_keeps (r : Route) (s : State) : Keeps s (rerank r s) := by
  unfold rerank
  dsimp only
  split
  · split
    next b hb =>
      split
      · obtain ⟨hnames, hup, -⟩ := bestUp_some hb
        exact choose_keeps _ _ fun n _ => ⟨hnames, .inl hup⟩
      · exact .refl s
    next => exact .refl s
  · exact .refl s

theorem fallbackReturn_keeps (r : Route) (s : State) : Keeps s (fallbackReturn r s) := by
  unfold fallbackReturn
  dsimp only
  split
  · exact fullyReselect_keeps ..
  · exact .refl s

theorem routeUpdate_keeps (r : Route) (s : State) : Keeps s (routeUpdate r s) :=
  (((installRoute_keeps r s).trans (rerank_keeps r _)).trans (fallbackReturn_keeps r _)).trans
    (setRouteRec_keeps _ r rfl rfl)

theorem probe_record (s : State) (rt : RouteRecord) (a : Path) :
    (s.probe rt a).2.live = rt.live ∧ (s.probe rt a).2.chosen = rt.chosen := by
  unfold State.probe
  repeat' split
  all_goals exact ⟨rfl, rfl⟩

theorem targets_keeps (s : State) (r : Route) : Keeps s (s.targets r).2 := by
  unfold State.targets
  dsimp only
  split
  · exact .refl s
  · exact setRouteRec_keeps s r (probe_record ..).1 (probe_record ..).2
  · exact setRouteRec_keeps s r (probe_record ..).1 (probe_record ..).2
  · exact .refl s

/-! ### The return of read data -/

/-- The beats of a read are the transfers of its data, the last one marked (R3, R4). -/
theorem beatsOut_cons (tag : Tag) (error last : Bool) (w v : Word) (ws : List Word) :
    beatsOut tag error last (w :: v :: ws) = .readBeat tag w error false :: beatsOut tag error last (v :: ws) := by
  unfold beatsOut
  rw [List.zipIdx_cons, List.zipIdx_succ]
  simp
  cases ws <;> rfl

theorem emitBeats_eq (tag : Tag) (error last : Bool) (ws : List Word) (s : State) :
    emitBeats tag error last ws s = { s with bus := s.bus ++ beatsOut tag error last ws } := by
  induction ws generalizing s with
  | nil => simp [emitBeats, beatsOut]
  | cons w ws ih =>
    cases ws with
    | nil => simp [emitBeats, emit, beatsOut]
    | cons v vs =>
      unfold emitBeats
      rw [ih, beatsOut_cons]
      simp [emit]

/-- A read has its answer. -/
def ReadRec.isAnswered (r : ReadRec) : Bool := r.answer.isSome

/-- A read with its answer returns: its transfers, and what its departure processing counts (R3, R72). -/
theorem completeRead_eq {r : ReadRec} {words : ReadWords} {error : Bool} (h : r.answer = some (words, error)) (s : State) :
    completeRead r words error s = { s with bus := s.bus ++ r.returned, paths := r.counted s.paths } := by
  unfold completeRead ReadRec.returned ReadRec.counted ReadRec.data
  rw [h, emitBeats_eq]
  cases r.departure with
  | none => rfl
  | some d => cases error <;> rfl

/-- The reads that have their answers return from the oldest on, until one waits (R3). -/
theorem returnReads_eq (rs : List ReadRec) (s : State) :
    returnReads rs s =
      { s with
        bus := s.bus ++ (rs.takeWhile ReadRec.isAnswered).flatMap ReadRec.returned
        paths := (rs.takeWhile ReadRec.isAnswered).foldl ReadRec.counted s.paths
        reads := rs.dropWhile ReadRec.isAnswered } := by
  induction rs generalizing s with
  | nil => simp [returnReads]
  | cons r rs ih =>
    unfold returnReads
    cases h : r.answer with
    | none =>
      have hno : ReadRec.isAnswered r = false := by simp [ReadRec.isAnswered, h]
      simp [hno]
    | some a =>
      obtain ⟨words, error⟩ := a
      have hyes : ReadRec.isAnswered r = true := by simp [ReadRec.isAnswered, h]
      simp only [completeRead_eq h, ih]
      simp [hyes]

theorem deliverReads_eq (s : State) :
    deliverReads s =
      { s with
        bus := s.bus ++ (s.reads.takeWhile ReadRec.isAnswered).flatMap ReadRec.returned
        paths := (s.reads.takeWhile ReadRec.isAnswered).foldl ReadRec.counted s.paths
        reads := s.reads.dropWhile ReadRec.isAnswered } := returnReads_eq s.reads s

/-- Reads numbered below the next number, each with a number of its own (R3). -/
def readsNumbered (rs : List ReadRec) (next : Nat) : Prop := (rs.map ReadRec.id).Nodup ∧ ∀ x ∈ rs, x.id < next

theorem readsNumbered_append {rs : List ReadRec} {next : Nat} (h : readsNumbered rs next) {r : ReadRec}
    (hr : r.id = next) : readsNumbered (rs ++ [r]) (next + 1) := by
  refine ⟨?_, fun x hx => ?_⟩
  · rw [List.map_append, List.nodup_append]
    refine ⟨h.1, by simp, fun a ha b hb => ?_⟩
    obtain ⟨x, hx, rfl⟩ := List.mem_map.1 ha
    have hxlt := h.2 x hx
    simp only [List.map_cons, List.map_nil, List.mem_singleton] at hb
    omega
  · rcases List.mem_append.1 hx with hold | hnew
    · exact Nat.lt_succ_of_lt (h.2 x hold)
    · obtain rfl := List.mem_singleton.1 hnew
      omega

theorem readsNumbered_map {rs : List ReadRec} {next : Nat} (h : readsNumbered rs next) {f : ReadRec → ReadRec}
    (hf : ∀ r, (f r).id = r.id) : readsNumbered (rs.map f) next := by
  have hids : (rs.map f).map ReadRec.id = rs.map ReadRec.id := by
    rw [List.map_map]
    exact List.map_congr_left fun r _ => hf r
  refine ⟨hids ▸ h.1, fun x hx => ?_⟩
  obtain ⟨r, hr, rfl⟩ := List.mem_map.1 hx
  rw [hf]
  exact h.2 r hr

/-- A delivery leaves the reads in order whatever answers there are (R3). -/
theorem deliverReads_readsOrdered {s : State} (h : readsNumbered s.reads s.nextRead) : (deliverReads s).readsOrdered := by
  rw [deliverReads_eq]
  have hsub := List.dropWhile_sublist (l := s.reads) ReadRec.isAnswered
  refine ⟨fun x hx => ?_, (hsub.map _).nodup h.1, fun x hx => h.2 x (hsub.subset hx)⟩
  have hhead := List.head?_dropWhile_not ReadRec.isAnswered s.reads
  rw [show ({ s with bus := _, paths := _, reads := s.reads.dropWhile ReadRec.isAnswered } : State).reads.head? = some x from hx]
    at hhead
  simpa [ReadRec.isAnswered] using hhead

/-- The count of a returned read moves period counts alone. -/
theorem counted_get (paths : Vector PathRecord 8) (r : ReadRec) (q : Path) :
    ∃ c, (r.counted paths)[q] = { paths[q] with period := c } := by
  unfold ReadRec.counted
  split
  next _ _ d _ _ _ =>
    by_cases hq : d.path = q
    · subst hq
      exact ⟨_, by simp; rfl⟩
    · refine ⟨paths[q].period, ?_⟩
      have hne : (d.path : Nat) ≠ q := fun e => hq (Fin.ext e)
      simp [hne]
  next => exact ⟨paths[q].period, rfl⟩

theorem foldl_counted_get (rs : List ReadRec) (paths : Vector PathRecord 8) (q : Path) :
    ∃ c, (rs.foldl ReadRec.counted paths)[q] = { paths[q] with period := c } := by
  induction rs generalizing paths with
  | nil => exact ⟨paths[q].period, rfl⟩
  | cons r rs ih =>
    obtain ⟨c, hc⟩ := ih (r.counted paths)
    obtain ⟨d, hd⟩ := counted_get paths r q
    exact ⟨c, by rw [List.foldl_cons, hc, hd]⟩

/-- A delivery of answered reads keeps everything, whatever the reads before, where the reads it finds are numbered. -/
theorem deliverReads_keeps {s u : State} (hu : Keeps s { u with reads := s.reads, nextRead := s.nextRead })
    (h : s.readsOrdered → readsNumbered u.reads u.nextRead) : Keeps s (deliverReads u) := by
  have hreads : s.readsOrdered → (deliverReads u).readsOrdered := fun hs => deliverReads_readsOrdered (h hs)
  rw [deliverReads_eq] at hreads ⊢
  have hget := foldl_counted_get (u.reads.takeWhile ReadRec.isAnswered) u.paths
  generalize (u.reads.takeWhile ReadRec.isAnswered).foldl ReadRec.counted u.paths = paths at hreads hget ⊢
  exact
    { hu with
      reads := hreads
      probations := fun hs p => by
        obtain ⟨c, hc⟩ := hget p
        have := hu.probations hs p
        dsimp only
        rwa [hc]
      estimates := fun hs p => by
        obtain ⟨c, hc⟩ := hget p
        have := hu.estimates hs p
        dsimp only
        rwa [hc]
      routes := fun hs r => (routeLegal_congr rfl rfl fun p => by
        obtain ⟨c, hc⟩ := hget p
        dsimp only
        rw [hc]).2 (hu.routes hs r) }

/-! ### Arrivals -/

theorem setMerger_keeps {s : State} {r : Route} {m : MergeRecord} (h : s.mergers[r].table.length = 64 → m.table.length = 64) :
    Keeps s (s.setMerger r m) where
  mergers hs k := by
    rw [setMerger_get]
    split
    · exact h (hs r)
    · exact hs k

theorem deliverMerger_keeps (r : Route) (q : BitVec 24) (p : Path) (rd : Reading) (s : State) :
    Keeps s (deliverMerger r q p rd s) := by
  have taken : Keeps s (s.setMerger r (s.mergers[r].take q rd p).1) := setMerger_keeps (take_table_length _ q rd p)
  unfold deliverMerger
  dsimp only
  split
  · exact (taken.trans (countPath_keeps ..)).trans (submit_keeps ..)
  · exact taken.trans (countPath_keeps ..)

theorem enterRx_bounded (e : Estimator) (d : Nat) (x : PathRecord) (hd : d ≤ e.maxPlausible) :
    (enterRx e d x).est.getD 0 ≤ 16 * e.maxPlausible := by
  unfold enterRx clampInt
  split
  · exact Nat.mul_le_mul_left 16 hd
  · simp only [Option.getD_some]
    omega

/-- A sample keeps the estimate below its bound: a valid one is at most MAX_PLAUSIBLE (R87, R92). -/
theorem takeSample_est {e : Estimator} {x : PathRecord} (w : Word) (rd : Reading)
    (h : x.est.getD 0 ≤ 16 * e.maxPlausible) : (takeSample e w rd x).est.getD 0 ≤ 16 * e.maxPlausible := by
  unfold takeSample
  split
  next hvalid =>
    have hd : (sinceStamp rd w).toNat ≤ e.maxPlausible := by
      obtain ⟨_, hmax, _⟩ := (sampleValid_iff ..).1 hvalid
      omega
    exact enterRx_bounded e _ x hd
  next => exact h

theorem takeSample_health (e : Estimator) (w : Word) (rd : Reading) (x : PathRecord) :
    (takeSample e w rd x).state = x.state ∧ (takeSample e w rd x).hs = x.hs ∧
      (takeSample e w rd x).countdown = x.countdown := by
  by_cases h : sampleValid e w rd x = true
  · obtain ⟨c, hc, -⟩ := takeSample_valid h
    rw [hc]
    exact ⟨rfl, rfl, rfl⟩
  · rw [takeSample_invalid h]
    exact ⟨rfl, rfl, rfl⟩

theorem deliverSample_keeps (p : Path) (w : Option Word) (rd : Reading) (s : State) : Keeps s (deliverSample p w rd s) := by
  unfold deliverSample
  cases w with
  | none => exact setPathRec_keeps_of_eq rfl rfl rfl rfl
  | some w =>
    obtain ⟨hstate, hhs, hcount⟩ := takeSample_health s.estimator w rd s.paths[p]
    refine setPathRec_keeps hstate (fun h => ?_) (takeSample_est w rd)
    unfold PathRecord.ProbationCounted
    dsimp only
    rw [hstate, hhs, hcount]
    exact h

theorem deliverReportBack_keeps (p : Path) (w : Option Word) (s : State) : Keeps s (deliverReportBack p w s) := by
  unfold deliverReportBack
  split
  · exact (takeFarEnd_keeps ..).after (setPathRec_keeps_of_eq rfl rfl rfl rfl)
  · exact .refl s

theorem deliverSequence_keeps (p : Path) (q : BitVec 16) (s : State) : Keeps s (deliverSequence p q s) := by
  obtain ⟨c, hc, -⟩ := takeSequence_follows q s.paths[p]
  unfold deliverSequence
  rw [hc]
  exact setPathRec_keeps_of_eq rfl rfl rfl rfl

theorem deliverMonitor_keeps (c : ArrivalCommit) (s : State) : Keeps s (deliverMonitor c s) :=
  ((deliverSample_keeps ..).trans (deliverReportBack_keeps ..)).trans (deliverSequence_keeps ..)

theorem deliverBoth_keeps (b : Bool) (c : ArrivalCommit) (s : State) : Keeps s (deliverBoth b c s) := by
  unfold deliverBoth
  split
  · exact (deliverMonitor_keeps c s).trans (deliverMerger_keeps ..)
  · exact (deliverMerger_keeps ..).trans (deliverMonitor_keeps c _)

theorem setArrivals_keeps {s : State} {p : Path} {x : List PendingArrival} (h : s.arrivals[p].length ≤ 4 → x.length ≤ 4) :
    Keeps s (s.setArrivals p x) where
  arrivals hs k := by
    rw [setArrivals_get]
    split
    · exact h (hs p)
    · exact hs k

theorem placeArrival_keeps (p : Path) (n : Nat) (a b : Option Word) (s : State) : Keeps s (placeArrival p n a b s) := by
  unfold placeArrival Config.slotRecords
  dsimp only
  split
  · exact .refl s
  · split
    · exact setArrivals_keeps fun h => by rwa [List.length_map]
    · split
      · exact setArrivals_keeps fun h => by rw [List.length_append, List.length_singleton]; omega
      · refine (setArrivals_keeps (s := s) (p := p) (x := s.arrivals[p].drop 1 ++ [⟨n, a, b⟩]) fun h => ?_).trans {}
        rw [List.length_append, List.length_singleton, List.length_drop]
        omega

/-! ### The Steering Unit -/

theorem setSteer_keeps {s : State} {r : Route} {x : SteerRoute}
    (h : s.steer[r].openSlots.length ≤ 4 → x.openSlots.length ≤ 4) : Keeps s (s.setSteer r x) where
  slots hs k := by
    rw [setSteer_get]
    split
    · exact h (hs r)
    · exact hs k

theorem ackIf_keeps (t : Tag) (a : Bool) (s : State) : Keeps s (ackIf t a s) := by
  unfold ackIf
  split
  · exact {}
  · exact .refl s

theorem offerWrites_keeps (t : Tag) (a m : Bool) (ws : List MemWrite) (s : State) : Keeps s (offerWrites t a m ws s) := {}

theorem abandon_keeps (r : Route) (o : OpenSlot) (s : State) : Keeps s (abandon r o s) := by
  unfold abandon
  exact (slotEvent_keeps ..).after (setSteer_keeps id)

/-- An eviction leaves the list of its route as it is: the record is off it already (R24). -/
theorem abandon_openSlots (r : Route) (o : OpenSlot) (s : State) :
    (abandon r o s).steer[r].openSlots = s.steer[r].openSlots := by
  unfold abandon
  rw [(slotEvent_only ..).steer, setSteer_get, if_pos rfl]

theorem makeRoom_keeps (r : Route) (s : State) : Keeps s (makeRoom r s) := by
  unfold makeRoom
  split
  next o rest heq =>
    split
    · exact .refl s
    · refine (setSteer_keeps fun h => ?_).trans (abandon_keeps ..)
      rw [heq, List.length_cons] at h
      dsimp only
      omega
  next => exact .refl s

/-- A list within its bound has room for one more record once room is made (R23). -/
theorem makeRoom_length {r : Route} {s : State} (h : s.steer[r].openSlots.length ≤ 4) :
    (makeRoom r s).steer[r].openSlots.length < 4 := by
  unfold makeRoom Config.slotRecords
  split
  next o rest heq =>
    rw [heq, List.length_cons] at h
    split
    · rw [heq, List.length_cons]
      assumption
    · rw [abandon_openSlots, setSteer_get, if_pos rfl]
      dsimp only
      omega
  next heq =>
    rw [heq]
    exact Nat.zero_lt_succ 3

theorem openNew_keeps (r : Route) (n : Nat) (b : Binding) (s : State) : Keeps s (openNew r n b s) := by
  unfold openNew
  dsimp only
  exact
    { (makeRoom_keeps r s).trans (u := (makeRoom r s).setSteer r _) (setSteer_keeps (x := (makeRoom r s).steer[r]) id) with
      slots := fun hs k => by
        rw [setSteer_get]
        split
        · dsimp only
          rw [List.length_append, List.length_singleton]
          exact makeRoom_length (hs r)
        · exact (makeRoom_keeps r s).slots hs k }

theorem darkDiscard_keeps (w : RouteWrite) (s : State) : Keeps s (darkDiscard w s) := by
  unfold darkDiscard
  dsimp only
  split
  · exact (ackIf_keeps ..).after (setSteer_keeps id)
  · exact (ackIf_keeps ..).after ((slotEvent_keeps ..).after (setSteer_keeps id))

theorem discardRole_keeps (w : RouteWrite) (s : State) : Keeps s (discardRole w s) := by
  unfold discardRole
  exact (ackIf_keeps ..).after ((slotEvent_keeps ..).after (setSteer_keeps id))

/-- After a targets question the answer decides; whatever it is, the question keeps everything. -/
theorem keeps_of_targets {s : State} {r : Route} {b : Option Binding} {u t : State} (h : s.targets r = (b, u))
    (k : Keeps u t) : Keeps s t := by
  have hu := targets_keeps s r
  rw [h] at hu
  exact hu.trans k

theorem steerPayload_keeps (w : RouteWrite) (s : State) : Keeps s (steerPayload w s) := by
  unfold steerPayload
  split
  · exact offerWrites_keeps ..
  · split <;> rename_i heq
    · exact keeps_of_targets heq ((openNew_keeps ..).trans (offerWrites_keeps ..))
    · exact keeps_of_targets heq (darkDiscard_keeps ..)

theorem advancePathSeq_keeps (q : Path) (s : State) : Keeps s (advancePathSeq q s) := {}

theorem countCommit_keeps (b : Bool) (q : Path) (s : State) : Keeps s (countCommit b q s) := countPath_keeps ..

theorem countRouteCommit_keeps (r : Route) (b : Binding) (s : State) : Keeps s (countRouteCommit r b s) := setSteer_keeps id

theorem commitFrame_keeps (w : RouteWrite) (x : Word) (b : Binding) (s : State) : Keeps s (commitFrame w x b s) := by
  have h : Keeps s (countCommit false b.primary (advancePathSeq b.primary (countRouteCommit w.route b s))) :=
    ((countRouteCommit_keeps ..).trans (advancePathSeq_keeps ..)).trans (countCommit_keeps ..)
  unfold commitFrame
  dsimp only
  split
  · exact ((h.trans (advancePathSeq_keeps ..)).trans (countCommit_keeps ..)).trans (offerWrites_keeps ..)
  · exact h.trans (offerWrites_keeps ..)

theorem closeSlot_keeps (r : Route) (n : Nat) (s : State) : Keeps s (closeSlot r n s) :=
  setSteer_keeps fun h => (List.length_filter_le ..).trans h

theorem steerCommit_keeps (w : RouteWrite) (x : Word) (s : State) : Keeps s (steerCommit w x s) := by
  unfold steerCommit
  split
  · exact (closeSlot_keeps ..).trans (commitFrame_keeps ..)
  · split <;> rename_i heq
    · exact keeps_of_targets heq (commitFrame_keeps ..)
    · exact keeps_of_targets heq (darkDiscard_keeps ..)

theorem steerWrite_keeps (w : RouteWrite) (s : State) : Keeps s (steerWrite w s) := by
  unfold steerWrite
  split
  · split
    · exact steerCommit_keeps ..
    · exact steerPayload_keeps ..
  · exact steerPayload_keeps ..

theorem abandonAll_keeps (s : State) : Keeps s (abandonAll s) :=
  Keeps.foldl (fun s r => (setSteer_keeps (s := s) (r := r) fun _ => Nat.zero_le _).trans
    (Keeps.foldl (fun s o => abandon_keeps r o s) _ _)) _ s

/-! ### The Agent Port -/

theorem receiveCommit_keeps (b : Bool) (w : Window) (o : Nat) (t : Tag) (bs : List Beat) (x : Word) (a : Bool)
    (s : State) : Keeps s (receiveCommit b w o t bs x a s) := by
  unfold receiveCommit
  dsimp only
  exact ((setArrivals_keeps fun h => (List.length_filter_le ..).trans h).trans (deliverBoth_keeps ..)).trans
    (offerWrites_keeps ..)

theorem arrivalWrite_keeps (w : Window) (o : Nat) (t : Tag) (bs : List Beat) (a : Bool) (s : State) :
    Keeps s (arrivalWrite w o t bs a s) := by
  unfold arrivalWrite
  dsimp only
  split
  · split
    · exact Keeps.trans (t := { s with choice := s.choice + 1 }) {} (receiveCommit_keeps ..)
    · exact (placeArrival_keeps ..).trans (offerWrites_keeps ..)
  · exact (placeArrival_keeps ..).trans (offerWrites_keeps ..)

theorem snoopStatus_keeps (o : Nat) (t : Tag) (bs : List Beat) (s : State) : Keeps s (snoopStatus o t bs s) := by
  unfold snoopStatus
  split
  · exact takeStatusWord_keeps ..
  · exact .refl s

theorem acceptWrite_keeps (w : WriteReq) (a : Bool) (s : State) : Keeps s (acceptWrite w a s) := by
  unfold acceptWrite
  split
  · exact offerWrites_keeps ..
  · exact offerWrites_keeps ..
  · split
    · dsimp only
      split
      · exact steerWrite_keeps ..
      · exact discardRole_keeps ..
    · split
      · exact arrivalWrite_keeps ..
      · exact offerWrites_keeps ..
    · exact (snoopStatus_keeps ..).trans (offerWrites_keeps ..)
    · exact offerWrites_keeps ..
    · exact offerWrites_keeps ..

theorem queueRead_keeps (m : MemRead) (n : Nat) (s : State) : Keeps s (queueRead m n s) := by
  unfold queueRead
  split <;> exact {}

/-- An accepted read takes the youngest place with a number of its own (R3). -/
theorem issueLater_keeps (t : Tag) (a : Addr) (es : List (BitVec 8)) (sw l : Bool) (d : Option Departure) (s : State) :
    Keeps s (issueLater t a es sw l d s) := by
  unfold issueLater
  refine Keeps.trans (t := { s with nextRead := _, reads := _ }) { reads := fun h => ?_ } (queueRead_keeps ..)
  obtain ⟨hhead, hnodup, hbound⟩ := h
  refine ⟨fun x hx => ?_, readsNumbered_append ⟨hnodup, hbound⟩ rfl⟩
  cases hreads : s.reads with
  | nil =>
    simp only [hreads, List.nil_append, List.head?_cons, Option.some.injEq] at hx
    rw [← hx]
  | cons r rs =>
    simp only [hreads, List.cons_append, List.head?_cons, Option.some.injEq] at hx
    exact hhead x (by rw [hreads, ← hx, List.head?_cons])

/-- A read answered with zeros takes its place, and returns if it is the oldest (R3, R13). -/
theorem answerZeros_keeps (t : Tag) (n : Nat) (sw l : Bool) (s : State) : Keeps s (answerZeros t n sw l s) :=
  deliverReads_keeps {} fun h => readsNumbered_append h.2 rfl

theorem acceptRead_keeps (r : ReadReq) (l : Bool) (s : State) : Keeps s (acceptRead r l s) := by
  unfold acceptRead
  split
  · exact issueLater_keeps ..
  · exact issueLater_keeps ..
  · split
    · split
      · exact issueLater_keeps ..
      · exact answerZeros_keeps ..
    all_goals exact issueLater_keeps ..

theorem pump_keeps (qs : List PortRequest) (s : State) : Keeps s (pump qs s) := by
  induction qs generalizing s with
  | nil => exact {}
  | cons q qs ih =>
    unfold pump accept
    split
    · refine Keeps.trans ?_ (ih _)
      split
      · exact acceptWrite_keeps ..
      · exact acceptRead_keeps ..
    · exact {}

theorem pumpPort_keeps (s : State) : Keeps s (pumpPort s) := pump_keeps ..

theorem presentWrite_keeps (w : WriteReq) (s : State) : Keeps s (presentWrite w s) :=
  Keeps.trans (t := s.setWaiting (s.portWaiting ++ splitWrite w)) {} (pumpPort_keeps _)

theorem presentRead_keeps (r : ReadReq) (s : State) : Keeps s (presentRead r s) :=
  Keeps.trans (t := s.setWaiting (s.portWaiting ++ splitRead r)) {} (pumpPort_keeps _)

/-! ### The Report Writer -/

theorem writeRecord_keeps (r : Report) (a : Addr) (s : State) : Keeps s (writeRecord r a s) := by
  have placed : Keeps s ((presentOffer .report (ownWrites a .ringRecord
      (recordWords r s.rings[r.kind.ring].number s.rings[r.kind.ring].drops)) s).setRing r.kind.ring
      s.rings[r.kind.ring].written) := {}
  unfold writeRecord
  dsimp only
  split
  · split
    · exact (placed.trans (setPending_keeps ..)).trans (setPending_keeps ..)
    · exact placed.trans (setPending_keeps ..)
  · split
    · exact placed.trans (setPending_keeps ..)
    · exact placed

/-- An item taken off the write list leaves no more records. -/
theorem tail_keeps {s : State} {item : ListItem} {rest : List ListItem} (h : s.writeList = item :: rest) :
    Keeps s { s with writeList := rest } where
  records hs := by
    have hle : (rest.filter ListItem.isRecord).length ≤ (s.writeList.filter ListItem.isRecord).length := by
      rw [h]
      exact ((List.sublist_cons_self ..).filter _).length_le
    exact hle.trans hs

theorem placeItems_keeps (n : Nat) (s : State) : Keeps s (placeItems n s) := by
  induction n generalizing s with
  | zero => exact .refl s
  | succ n ih =>
    unfold placeItems
    split
    next => exact .refl s
    next rest heq => exact (tail_keeps heq).trans {}
    next r rest heq =>
      dsimp only
      split
      · exact (tail_keeps heq).trans (writeRecord_keeps ..)
      · exact ((tail_keeps heq).trans (countDrop_keeps ..)).trans (ih _)

theorem placeNext_keeps (s : State) : Keeps s (placeNext s) := by
  unfold placeNext
  split
  · exact .refl s
  · exact placeItems_keeps ..

theorem takeConsumer_keeps (r : RingId) (w : Word) (s : State) : Keeps s (takeConsumer r w s) := by
  unfold takeConsumer
  dsimp only
  split
  · exact {}
  · exact .refl s

theorem takeAcknowledge_keeps (w : Word) (s : State) : Keeps s (takeAcknowledge w s) := by
  have first : Keeps s (if w.getLsbD 0 then clearPending 0 s else s) := by
    split
    · exact clearPending_keeps ..
    · exact .refl s
  unfold takeAcknowledge
  dsimp only
  split
  · exact first.trans (clearPending_keeps ..)
  · exact first

/-! ### The Write Queue's arbiter -/

theorem presentWork_keeps (s : State) : Keeps s (presentWork s) := by
  unfold presentWork
  split <;> exact {}

theorem cuPresent_keeps (s : State) : Keeps s (cuPresent s) := by
  unfold cuPresent
  split
  · exact .refl s
  · split
    · exact {}
    · exact presentWork_keeps s

theorem takeCommand_keeps (w : Word) (t : Tag) (s : State) : Keeps s (takeCommand w t s) := by
  unfold takeCommand
  split
  · exact Keeps.trans (t := s.setCu _) {} (queueRead_keeps ..)
  · exact {}
  · exact {}

theorem onPageWord_keeps {f : Word → State → State} (h : ∀ w s, Keeps s (f w s)) (n : Nat) (bs : List Beat) (k : Nat)
    (s : State) : Keeps s (onPageWord n bs k f s) := by
  unfold onPageWord
  split
  · exact h ..
  · exact .refl s

theorem snoopPage_keeps (t : Tag) (w : MemWrite) (s : State) : Keeps s (snoopPage t w s) :=
  (((onPageWord_keeps (fun w s => takeCommand_keeps w t s) _ _ _ s).trans
    (onPageWord_keeps takeAcknowledge_keeps _ _ _ _)).trans
    (onPageWord_keeps (takeConsumer_keeps 0) _ _ _ _)).trans
    (onPageWord_keeps (takeConsumer_keeps 1) _ _ _ _)

theorem afterAdmission_keeps (o : Offer) (s : State) : Keeps s (afterAdmission o s) := by
  unfold afterAdmission
  split
  next tag acks managed _ =>
    have snooped : Keeps s (if managed then o.writes.foldl (fun s w => snoopPage tag w s) (ackIf tag acks s)
        else ackIf tag acks s) := by
      split
      · exact (ackIf_keeps ..).trans (Keeps.foldl (fun s w => snoopPage_keeps tag w s) _ _)
      · exact ackIf_keeps ..
    exact (snooped.trans (pumpPort_keeps ..)).trans (cuPresent_keeps _)
  next =>
    refine (cuPresent_keeps _).after ?_
    split
    · split <;> exact {}
    · exact .refl s
  next => exact cuPresent_keeps s
  next => exact Keeps.trans (t := s.setCu .idle) {} (cuPresent_keeps _)
  next => exact .refl s

theorem admitOldest_keeps (s : State) : Keeps s (admitOldest s) := by
  unfold admitOldest
  split
  next o os _ =>
    split
    next hfits =>
      exact
        { afterAdmission_keeps o { s with offers := os, queue := s.queue ++ o.writes } with
          queue := fun _ => by
            unfold State.queueBounded State.occupied
            rw [(afterAdmission_only o _).queue, entriesOf_append]
            exact of_decide_eq_true (p := s.occupied + entriesOf o.writes ≤ Config.queueCapacity) hfits }
    next => exact .refl s
  next => exact .refl s

theorem presentAndAdmit_keeps (w : WriteReq) (s : State) : Keeps s (presentAndAdmit w s) := by
  unfold presentAndAdmit
  dsimp only
  split
  · exact (presentWrite_keeps w s).trans (Keeps.foldl (fun s _ => admitOldest_keeps s) _ _)
  · exact presentWrite_keeps w s

/-! ### The Memory Port -/

theorem issueRead_keeps (r : MemRead) (s : State) : Keeps s (issueRead r s) := {}

theorem issueWrite_keeps (w : MemWrite) (s : State) : Keeps s (issueWrite w s) where
  queue h := (drop_bounded s.queue).trans h

theorem drainTurn_keeps (s : State) : Keeps s (drainTurn s) := by
  unfold drainTurn
  split
  · exact issueWrite_keeps ..
  · exact .refl s
  · exact .refl s

theorem readTurn_keeps (s : State) : Keeps s (readTurn s) := by
  unfold readTurn
  split
  · exact .refl s
  · split
    · exact issueRead_keeps ..
    · exact issueWrite_keeps ..
    · exact .refl s

/-- An answer that memory gives a read returns what the oldest read no longer waits for (R3). -/
theorem answerRead_keeps (n : Nat) (m : MemRead) (words : ReadWords) (error : Bool) (s : State) :
    Keeps s (answerRead n m words error s) := by
  have numbered : s.readsOrdered → readsNumbered
      (s.reads.map (fun r => if r.id = n then { r with answer := some (words, error) } else r)) s.nextRead := fun h =>
    readsNumbered_map h.2 fun r => by split <;> rfl
  unfold answerRead
  dsimp only
  generalize (s.reads.map _) = reads at numbered
  split
  next =>
    generalize hu : memoryError 1 m.addr _ { s with readIssued := s.readIssued.drop 1, reads := reads } = u
    have hsame : u.reads = reads ∧ u.nextRead = s.nextRead := by
      rw [← hu]
      exact ⟨(memoryError_only ..).reads, (memoryError_only ..).nextRead⟩
    refine deliverReads_keeps ?_ (by rwa [hsame.1, hsame.2])
    rw [← hu]
    exact { memoryError_keeps 1 m.addr _ { s with readIssued := s.readIssued.drop 1, reads := reads } with
      reads := id }
  next => exact deliverReads_keeps {} numbered

theorem answerTurn_keeps (d : Bool) (words : ReadWords) (error : Bool) (s : State) :
    Keeps s (answerTurn d words error s) := by
  unfold answerTurn
  split
  · exact answerRead_keeps ..
  · exact .refl s

theorem writeError_keeps (addr : Addr) (owner : WriteOwner) (s : State) : Keeps s (writeError addr owner s) := by
  unfold writeError
  split
  · exact memoryError_keeps ..
  · exact .refl s

/-! ### RESTART -/

/-- The invariants of the records that a reset writes (R18, R173, R174). -/
theorem restart_routesLegal {s : State} (h : s.routes = Vector.replicate 4 emptyRoute) : s.routesLegal := fun r => by
  rw [h, show (Vector.replicate 4 emptyRoute)[r] = emptyRoute from Vector.getElem_replicate _]
  trivial

theorem restart_probationsCounted {s : State} (h : s.paths = Vector.replicate 8 powerOnPath) : s.probationsCounted :=
  fun p => by
    rw [h, show (Vector.replicate 8 powerOnPath)[p] = powerOnPath from Vector.getElem_replicate _]
    decide

theorem restart_estimatesBounded {s : State} (h : s.paths = Vector.replicate 8 powerOnPath) : s.estimatesBounded :=
  fun p => by
    rw [h, show (Vector.replicate 8 powerOnPath)[p] = powerOnPath from Vector.getElem_replicate _]
    exact Nat.zero_le _

theorem restart_slotsBounded {s : State} (h : s.steer = Vector.replicate 4 emptySteer) : s.slotsBounded := fun r => by
  rw [h, show (Vector.replicate 4 emptySteer)[r] = emptySteer from Vector.getElem_replicate _]
  exact Nat.zero_le _

theorem restart_arrivalsBounded {s : State} (h : s.arrivals = Vector.replicate 8 []) : s.arrivalsBounded := fun p => by
  rw [h, show (Vector.replicate 8 ([] : List PendingArrival))[p] = [] from Vector.getElem_replicate _]
  exact Nat.zero_le _

theorem restart_mergersWhole {s : State} (h : s.mergers = Vector.replicate 4 emptyMerger) : s.mergersWhole := fun r => by
  rw [h, show (Vector.replicate 4 emptyMerger)[r] = emptyMerger from Vector.getElem_replicate _]
  decide

theorem resetTables_keeps (c : Command) (s : State) : Keeps s (resetTables c s) where
  slots _ := restart_slotsBounded rfl
  arrivals _ := restart_arrivalsBounded rfl
  records _ := by
    have hlist : (resetTables c s).writeList = s.restartList := rfl
    unfold State.recordsBounded
    rw [hlist]
    unfold State.restartList
    split <;> decide
  mergers _ := restart_mergersWhole rfl
  probations _ := restart_probationsCounted rfl
  routes _ := restart_routesLegal rfl
  estimates _ := restart_estimatesBounded rfl

theorem finishRestart_keeps (s : State) : Keeps s (finishRestart s) := by
  unfold finishRestart
  split
  · exact ((resetTables_keeps ..).trans (pumpPort_keeps _)).trans (cuPresent_keeps _)
  · exact .refl s

/-! ### The Time Base -/

/-- The Time Base's part of the invariants: the rate and RATE_LIMIT in range (R43). -/
def TimeBase.RateBounded (t : TimeBase) : Prop :=
  1 ≤ t.disc.rateLimit ∧ t.disc.rateLimit ≤ 50000 ∧ t.rate.natAbs ≤ t.disc.rateLimit

/-- TIME's parts in their ranges (section 3.1). -/
def Time.InRange (t : Time) : Prop := t.ns < 1000000000 ∧ t.frac < 4294967296

/-- From `a` to `b` the rate stays bounded, and TIME in range where the rate is bounded. -/
structure TimeBase.KeepsRange (a b : TimeBase) : Prop where
  of_bounded : a.RateBounded → b.RateBounded ∧ (a.time.InRange → b.time.InRange)

/-- An update of the Time Base that leaves TIME, the rate and RATE_LIMIT keeps everything. -/
theorem TimeBase.KeepsRange.of_eq {a b : TimeBase} (htime : b.time = a.time) (hrate : b.rate = a.rate)
    (hlimit : b.disc.rateLimit = a.disc.rateLimit) : a.KeepsRange b where
  of_bounded h := ⟨by unfold RateBounded; rw [hrate, hlimit]; exact h, fun ht => htime ▸ ht⟩

theorem setTb_keeps {s : State} {t : TimeBase} (h : s.tb.KeepsRange t) : Keeps s (s.setTb t) where
  clock := h.of_bounded

theorem timeEvent_keeps (c : TimeCause) (e : Int) (s : State) : Keeps s (timeEvent c e s) := by
  unfold timeEvent
  exact (submit_keeps ..).after (setTb_keeps (.of_eq rfl rfl rfl))

theorem timeEvents_keeps (cs : List TimeCause) (e : Int) (s : State) : Keeps s (timeEvents cs e s) :=
  Keeps.foldl (fun s c => timeEvent_keeps c e s) cs s

/-- The quotient that INC rounds is at most a unit away from the exact one (R42). -/
theorem roundDiv_le {n : Int} {d : Nat} (hd : 0 < d) {k : Int} (h : n ≤ k * d) (hk : 0 ≤ k) : roundDiv n d ≤ k := by
  unfold roundDiv
  have hd' : (0 : Int) < 2 * d := by omega
  split
  · refine Int.lt_add_one_iff.1 (Int.ediv_lt_of_lt_mul hd' ?_)
    have : (k + 1) * (2 * (d : Int)) = 2 * (k * d) + 2 * d := by ring
    rw [this]
    omega
  · have : 0 ≤ (2 * -n + d) / (2 * (d : Int)) := Int.ediv_nonneg (by omega) (by omega)
    omega

/-- At a bounded rate a period of the core clock advances TIME by at most 8 ns (R42, R43). -/
theorem incrementOf_le {rate : Int} (h : rate.natAbs ≤ 50000) : incrementOf rate ≤ 34359738368 := by
  have hround : roundDiv (rate * nominalInc) billion ≤ 17179869184 := by
    refine roundDiv_le (by decide) ?_ (by decide)
    unfold nominalInc billion
    omega
  unfold incrementOf nominalInc
  unfold nominalInc at hround
  omega

/-- TIME after an increment, with the units of 2^-32 ns written out (R42). -/
theorem advance_eq (t : Time) (inc : Nat) :
    t.advance inc =
      if t.ns * 4294967296 + t.frac + inc < 1000000000 * 4294967296 then
        ⟨t.sec, (t.ns * 4294967296 + t.frac + inc) / 4294967296, (t.ns * 4294967296 + t.frac + inc) % 4294967296⟩
      else
        ⟨t.sec + 1, (t.ns * 4294967296 + t.frac + inc - 1000000000 * 4294967296) / 4294967296,
          (t.ns * 4294967296 + t.frac + inc - 1000000000 * 4294967296) % 4294967296⟩ := rfl

/-- An increment of less than a second keeps TIME's parts in their ranges (R42). -/
theorem advance_inRange {t : Time} {inc : Nat} (ht : t.InRange) (hinc : inc ≤ 34359738368) : (t.advance inc).InRange := by
  obtain ⟨hns, hfrac⟩ := ht
  rw [advance_eq]
  split
  · exact ⟨by dsimp only; omega, Nat.mod_lt _ (by decide)⟩
  · exact ⟨by dsimp only; omega, Nat.mod_lt _ (by decide)⟩

theorem increment_time (t : TimeBase) : t.increment.time = t.time.advance (incrementOf t.rate) := by
  cases t
  rfl

theorem increment_rate (t : TimeBase) : t.increment.rate = t.rate := by
  cases t
  rfl

theorem increment_disc (t : TimeBase) : t.increment.disc = t.disc := by
  cases t
  rfl

theorem increment_keeps (t : TimeBase) : t.KeepsRange t.increment where
  of_bounded h := by
    unfold TimeBase.RateBounded
    rw [increment_time, increment_rate, increment_disc]
    exact ⟨h, fun ht => advance_inRange ht (incrementOf_le (h.2.2.trans h.2.1))⟩

theorem clampInt_natAbs_le (n : Nat) (x : Int) : (clampInt (-n) n x).natAbs ≤ n := by
  unfold clampInt
  omega

theorem TimeBase.KeepsRange.trans {a b c : TimeBase} (h : a.KeepsRange b) (k : b.KeepsRange c) : a.KeepsRange c where
  of_bounded ha := ⟨(k.1 (h.1 ha).1).1, (k.1 (h.1 ha).1).2 ∘ (h.1 ha).2⟩

theorem less_inRange {t : Time} (e : Int) (ht : t.InRange) : (t.less e).InRange := by
  unfold Time.less Time.InRange billion at *
  dsimp only
  omega

theorem step_keeps (t : TimeBase) (e : Int) : t.KeepsRange (t.step e) :=
  ⟨fun h => ⟨h, less_inRange e⟩⟩

theorem discipline_keeps (t : TimeBase) (e f : Int) : t.KeepsRange (t.discipline e f) :=
  ⟨fun h => ⟨⟨h.1, h.2.1, clampInt_natAbs_le ..⟩, id⟩⟩

theorem accepted_keeps (t : TimeBase) (c : Capture) : t.KeepsRange (t.accepted c) := .of_eq rfl rfl rfl

theorem acquire_keeps (t : TimeBase) (c : Capture) : t.KeepsRange (t.acquire c).1 := by
  unfold TimeBase.acquire
  dsimp only
  split
  · exact (accepted_keeps t c).trans (step_keeps ..)
  · generalize (if (phaseError c).natAbs ≤ t.disc.lockWindow then t.lockRun + 1 else 0) = run
    split
    · exact ((accepted_keeps t c).trans (discipline_keeps ..)).trans (.of_eq rfl rfl rfl)
    · exact ((accepted_keeps t c).trans (discipline_keeps ..)).trans (.of_eq rfl rfl rfl)

theorem enterAcquiring_keeps (t : TimeBase) (c : Capture) : t.KeepsRange (t.enterAcquiring c).1 := by
  unfold TimeBase.enterAcquiring
  refine TimeBase.KeepsRange.trans ?_ (acquire_keeps ..)
  exact .of_eq rfl rfl rfl

theorem stray_keeps (t : TimeBase) : t.KeepsRange t.stray.1 := by
  unfold TimeBase.stray
  split <;> exact .of_eq rfl rfl rfl

/-- Every evaluation steps TIME within its ranges and clamps the rate (R47 to R51). -/
theorem evaluate_keeps (t : TimeBase) (c : Capture) : t.KeepsRange (t.evaluate c).1 := by
  unfold TimeBase.evaluate
  dsimp only
  split
  · exact enterAcquiring_keeps ..
  · exact acquire_keeps ..
  · split
    · exact stray_keeps t
    · split
      · exact (accepted_keeps t c).trans (discipline_keeps ..)
      · exact enterAcquiring_keeps ..
  · split
    · exact stray_keeps t
    · exact enterAcquiring_keeps ..

theorem evaluateCapture_keeps (s : State) : Keeps s (evaluateCapture s) := by
  unfold evaluateCapture
  split
  · split
    · exact .refl s
    · refine (timeEvents_keeps ..).after (setTb_keeps ?_)
      refine TimeBase.KeepsRange.trans ?_ (evaluate_keeps ..)
      exact .of_eq rfl rfl rfl
  · exact .refl s

theorem expireWatch_keeps (s : State) : Keeps s (expireWatch s) := by
  unfold expireWatch
  split
  · exact .refl s
  all_goals exact (timeEvent_keeps ..).after (setTb_keeps (.of_eq rfl rfl rfl))

theorem setTimeOf_keeps {sec : BitVec 48} {ns : Nat} (hns : ns < billion) (s : State) :
    Keeps s (setTimeOf sec ns s) := by
  unfold setTimeOf
  exact (timeEvent_keeps ..).after (setTb_keeps ⟨fun h => ⟨h, fun _ => ⟨hns, (by decide : 0 < 4294967296)⟩⟩⟩)

/-- The parameters of R46 in their ranges keep RATE_LIMIT in its own, and the rate is clamped at once (R57, R43). -/
theorem setDisciplineOf_keeps {d : Discipline} (hd : 1 ≤ d.rateLimit ∧ d.rateLimit ≤ 50000) (s : State) :
    Keeps s (setDisciplineOf d s) := by
  have stored : Keeps s (s.setTb (s.tb.setDiscipline d)) :=
    setTb_keeps ⟨fun _ => ⟨⟨hd.1, hd.2, clampInt_natAbs_le ..⟩, id⟩⟩
  have clamped : Keeps s (clampEvent s.tb.rate (s.setTb (s.tb.setDiscipline d))) := by
    refine stored.trans ?_
    unfold clampEvent
    split
    · exact .refl _
    · exact timeEvent_keeps ..
  refine clamped.trans ?_
  unfold setDisciplineOf endHoldover
  split
  · exact expireWatch_keeps _
  · exact .refl _


/-! ### Update events -/

theorem installWindows_keeps (s : State) : Keeps s (installWindows s) :=
  Keeps.foldl (fun s i => by unfold installWindow; split; exacts [{}, .refl s]) _ s

theorem rearmDark_keeps (s : State) : Keeps s (rearmDark s) :=
  Keeps.foldl (f := rearmRoute)
    (fun s r => setSteer_keeps (s := s) (r := r) (x := { s.steer[r] with darkReported := false }) id) _ s

theorem pathStats_keeps (s : State) : Keeps s (pathStats s) := by
  have reported : ∀ s p, Keeps s (reportPath p s) := fun s p => by
    unfold reportPath
    dsimp only
    split
    · exact .refl s
    · exact (submit_keeps ..).trans (submit_keeps ..)
  exact (Keeps.foldl reported _ s).trans (Keeps.foldl (fun s p => countPath_keeps p _ s) _ _)

theorem restartRoute_keeps (r : Route) (s : State) : Keeps s (restartRoute r s) := by
  have steer := setSteer_keeps (s := s) (r := r)
    (x := { s.steer[r] with commits := 0, darkDiscards := 0, abandoned := 0, mirrored := 0 }) id
  generalize hu : s.setSteer r _ = u at steer
  have merger := setMerger_keeps (s := u) (r := r) (m := { u.mergers[r] with stale := 0, resyncs := 0 }) id
  unfold restartRoute
  rw [hu]
  exact (steer.trans merger).trans (setRouteRec_keeps _ r (x := { u.routes[r] with modeChanges := 0 }) rfl rfl)

theorem routeStats_keeps (s : State) : Keeps s (routeStats s) := by
  have reported : ∀ s r, Keeps s (reportRoute r s) := fun s r => by
    unfold reportRoute
    dsimp only
    split
    · exact .refl s
    · exact submit_keeps ..
  exact (Keeps.foldl reported _ s).trans (Keeps.foldl (fun s r => restartRoute_keeps r s) _ _)

theorem routesUpdate_keeps (s : State) : Keeps s (routesUpdate s) := Keeps.foldl (fun s r => routeUpdate_keeps r s) _ s

theorem runTask_keeps (b : Bool) (t : UpdateTask) (s : State) : Keeps s (runTask b t s) := by
  unfold runTask
  split
  · split
    · exact pathStats_keeps s
    · exact .refl s
  · split
    · exact (routeStats_keeps s).trans (routesUpdate_keeps _)
    · exact routesUpdate_keeps s
  · exact autoRelease_keeps s
  · exact monitorUpdate_keeps _ s

theorem updateEvent_keeps (b : Bool) (w : List UpdateTask) (s : State) : Keeps s (updateEvent b w s) :=
  ((installWindows_keeps s).trans (rearmDark_keeps _)).trans (Keeps.foldl (fun s t => runTask_keeps b t s) _ _)

theorem freeUpdate_keeps (b : Bool) (s : State) : Keeps s (freeUpdate b s) :=
  Keeps.trans (t := { s with choice := s.choice + 1 }) {} (updateEvent_keeps ..)


/-! ### The events of time and of the pins -/

theorem afterBoundary_keeps (t : TimeBase) : t.KeepsRange t.afterBoundary := by
  unfold TimeBase.afterBoundary
  split <;> exact .of_eq rfl rfl rfl

theorem takeBoundary_keeps (s : State) : Keeps s (takeBoundary s) := by
  unfold takeBoundary
  split
  · split
    · exact (setTb_keeps (afterBoundary_keeps _)).trans (freeUpdate_keeps ..)
    · exact setTb_keeps (afterBoundary_keeps _)
  · exact .refl s

theorem takeRefpRise_keeps (s : State) : Keeps s (takeRefpRise s) := by
  unfold takeRefpRise
  split
  · exact setTb_keeps (.of_eq rfl rfl rfl)
  · exact .refl s

theorem takeRefpFall_keeps (s : State) : Keeps s (takeRefpFall s) := by
  unfold takeRefpFall
  split
  · exact setTb_keeps (.of_eq rfl rfl rfl)
  · exact .refl s

theorem setCut_keeps (s : State) (f : Filter) : Keeps s (s.setCut f) := {}

theorem takeCutRise_keeps (s : State) : Keeps s (takeCutRise s) := by
  unfold takeCutRise
  split
  · exact (setCut_keeps s _).trans (cutEvent_keeps ..)
  · exact .refl s

theorem takeCutFall_keeps (s : State) : Keeps s (takeCutFall s) := by
  unfold takeCutFall
  split
  · exact setCut_keeps ..
  · exact .refl s

theorem takeWatch_keeps (s : State) : Keeps s (takeWatch s) := by
  unfold takeWatch
  split
  · exact expireWatch_keeps s
  · exact .refl s

theorem takeTimer_keeps (p : Path) (s : State) : Keeps s (takeTimer p s) := by
  unfold takeTimer
  split
  · exact expireTimer_keeps ..
  · exact .refl s

theorem takeCountdownEnd_keeps (p : Path) (s : State) : Keeps s (takeCountdownEnd p s) := by
  unfold takeCountdownEnd
  split
  next hstate =>
    split
    · exact judgeProbation_keeps hstate
    · split
      · exact takeBoundary_keeps s
      · exact .refl s
  next => exact .refl s

theorem takeLapse_keeps (p : Path) (s : State) : Keeps s (takeLapse p s) := by
  unfold takeLapse
  split
  · exact setPathRec_keeps_of_eq rfl rfl rfl rfl
  · split
    · exact takeBoundary_keeps s
    · exact .refl s

theorem settle_keeps (s : State) : Keeps s (settle s) := by
  unfold settle
  dsimp only
  refine (Keeps.foldl (fun s p => takeTimer_keeps p s) _ _).after ?_
  exact (((((finishRestart_keeps s).trans (takeRefpRise_keeps _)).trans (takeRefpFall_keeps _)).trans
    (takeCutRise_keeps _)).trans (takeCutFall_keeps _)).trans ((takeBoundary_keeps _).trans (takeWatch_keeps _))

theorem refp_keeps (t : TimeBase) (f : Filter) : t.KeepsRange { t with refp := f } := .of_eq rfl rfl rfl

theorem clockPeriod_keeps (a b : Bool) (s : State) : Keeps s (clockPeriod a b s) := by
  unfold clockPeriod TimeBase.period
  exact (setTb_keeps ((increment_keeps s.tb).trans (refp_keeps ..))).trans (setCut_keeps ..)

/-! ### The commands of the Command Unit -/

theorem answer_keeps (c : Command) (a : Answer) (s : State) : Keeps s (answer c a s) :=
  Keeps.trans (t := s.setCu _) {} (cuPresent_keeps _)

theorem judge_keeps {suits : BitVec 8 → Bool} {f : State → Answer × State} (h : ∀ s, Keeps s (f s).2) (s : State) :
    Keeps s (judge suits f s) := by
  unfold judge
  split
  · exact (Keeps.trans (t := s.tookArguments) {} (h _)).trans (answer_keeps ..)
  · exact .refl s

theorem checked_keeps {level : Nat} {errors : List (Nat × Bool)} {s : State} {effect : Answer × State}
    (h : firstBad errors = none → Keeps s effect.2) : Keeps s (checked level errors s effect).2 := by
  unfold checked
  split
  · exact .refl s
  · split
    next => exact .refl s
    next hnone => exact h hnone

theorem beginWork_keeps (op : BitVec 8) (work : State → Work) (s : State) : Keeps s (beginWork op work s) := by
  unfold beginWork
  split
  · exact Keeps.trans (t := s.tookArguments.setCu _) {} (cuPresent_keeps _)
  · exact .refl s

theorem argumentError_keeps (s : State) : Keeps s (argumentError s) := by
  unfold argumentError
  split
  · exact (Keeps.trans (t := s.tookArguments) {} (memoryError_keeps ..)).trans (answer_keeps ..)
  · exact .refl s

theorem judgeSetTime_keeps (args : ArgWords) (s : State) : Keeps s (judgeSetTime args s).2 := by
  refine checked_keeps fun h => setTimeOf_keeps ?_ s
  by_contra hns
  have : billion ≤ argNat args 2 := by omega
  simp [firstBad, this] at h

theorem relayout_keeps (l : Layout) (s : State) : Keeps s { s with layout := l, arrivals := Vector.replicate 8 [] } where
  arrivals _ := restart_arrivalsBounded rfl

theorem judgeSetLayout_keeps (args : ArgWords) (s : State) : Keeps s (judgeSetLayout args s).2 := by
  refine checked_keeps fun _ => ?_
  unfold installLayout
  split
  · exact .refl s
  · exact (abandonAll_keeps s).trans (relayout_keeps _ _)

theorem writeSettings_keeps (p : Path) (x : PathSettings) (s : State) : Keeps s (writeSettings p x s) := by
  unfold writeSettings
  dsimp only
  split
  · exact (standbyChanged_keeps ..).after (setPathRec_keeps_of_eq rfl rfl rfl rfl)
  · exact setPathRec_keeps_of_eq rfl rfl rfl rfl

theorem writeHealth_keeps (p : Path) {h : HealthSettings} (hp : 1 ≤ h.probation) (s : State) :
    Keeps s (writeHealth p h s) :=
  (takeTimer_keeps ..).after (setPathRec_keeps rfl (fun hx => ⟨hp, hx.2⟩) id)

theorem mem_allPaths (p : Path) : p ∈ allPaths := by
  revert p
  decide

/-- The paths' records after a limit on their estimates, path by path (R97). -/
theorem foldl_limitEstimate_get (limit : Nat) (ps : List Path) (hps : ps.Nodup) (s : State) (q : Path) :
    (ps.foldl (fun s p => s.setPathRec p (limitEstimate limit s.paths[p])) s).paths[q] =
      if q ∈ ps then limitEstimate limit s.paths[q] else s.paths[q] := by
  induction ps generalizing s with
  | nil => simp
  | cons p ps ih =>
    rw [List.foldl_cons, ih hps.of_cons, setPathRec_get]
    by_cases hpq : p = q
    · subst hpq
      simp [hps.notMem]
    · simp [hpq, Ne.symm hpq]

theorem foldl_limitEstimate_only (limit : Nat) (s : State) :
    OnlyHealth s (allPaths.foldl (fun s p => s.setPathRec p (limitEstimate limit s.paths[p])) s) :=
  OnlyHealth.foldl (fun s p => setPathRec_only s p _) _ s

theorem limitEstimate_keeps (limit : Nat) (s : State) (p : Path) :
    Keeps s (s.setPathRec p (limitEstimate limit s.paths[p])) := by
  refine setPathRec_keeps rfl id fun h => ?_
  unfold limitEstimate
  cases hest : s.paths[p].est with
  | none => exact Nat.zero_le _
  | some x =>
    rw [hest] at h
    exact (Nat.min_le_left ..).trans h

/-- A new estimator, with the estimates of the paths left to be brought under its bound. -/
theorem Keeps.of_estimator {s t : State} {e : Estimator} (h : Keeps { s with estimator := e } t)
    (hest : s.estimatesBounded → t.estimatesBounded) : Keeps s t :=
  { h with estimates := hest }

/-- A lower MAX_PLAUSIBLE brings every estimate under its own bound; a higher one leaves them there (R97). -/
theorem writeEstimator_keeps (e : Estimator) (s : State) : Keeps s (writeEstimator e s) := by
  unfold writeEstimator
  dsimp only
  split
  next =>
    refine .of_estimator (Keeps.foldl (limitEstimate_keeps _) _ _) fun _ q => ?_
    rw [foldl_limitEstimate_get _ _ (by decide), (foldl_limitEstimate_only ..).estimator, if_pos (mem_allPaths q)]
    unfold limitEstimate
    dsimp only
    cases s.paths[q].est with
    | none => exact Nat.zero_le _
    | some x => exact Nat.min_le_right ..
  next hle => exact { estimates := fun h p => (h p).trans (Nat.mul_le_mul_left 16 (not_lt.1 hle)) }

theorem writePreload_keeps (r : Route) (list : List Path) (interval resync : Nat) (s : State) :
    Keeps s (writePreload r list interval resync s) := by
  have route := setRouteRec_keeps s r
    (x := { s.routes[r] with preload := list, preloadInterval := interval, pending := true }) rfl rfl
  exact route.trans (setMerger_keeps (m := { s.mergers[r] with resyncCount := resync }) id)

theorem pathAction_keeps (act : PathAction) (p : Path) (s : State) : Keeps s (act.effect p s).2 := by
  unfold PathAction.effect
  split
  · exact enablePath_keeps ..
  · exact disablePath_keeps ..
  · exact forceDown_keeps ..
  · exact releaseCut_keeps ..

theorem judgePathAdmin_keeps (act : PathAction) (args : ArgWords) (s : State) :
    Keeps s (judgePathAdmin act args s).2 := by
  unfold judgePathAdmin
  dsimp only
  split
  · exact .refl s
  · split
    · exact .refl s
    · exact pathAction_keeps ..

theorem installRoutes_keeps (s : State) : Keeps s (installRoutes s) :=
  Keeps.foldl (fun s r => installRoute_keeps r s) allRoutes s

theorem judgeApply_keeps (s : State) : Keeps s (judgeApply s).2 := by
  unfold judgeApply
  dsimp only
  exact (installWindows_keeps s).trans (installRoutes_keeps _)

/-- RAISE_LOCK refuses a lower level (R165). -/
theorem judgeRaiseLock_keeps (args : ArgWords) (s : State) : Keeps s (judgeRaiseLock args s).2 := by
  unfold judgeRaiseLock
  dsimp only
  split
  · exact .refl s
  · split
    next => exact .refl s
    next hlevel => exact { lock := not_lt.1 hlevel }

theorem capture_keepsRange (t : TimeBase) (src : CaptureSource) : t.KeepsRange (t.capture src) := .of_eq rfl rfl rfl

theorem effect_keeps (e : TestEvent) (s : State) : Keeps s (e.effect s) := by
  cases e with
  | update => exact freeUpdate_keeps ..
  | refPulse => exact setTb_keeps (capture_keepsRange ..)
  | cut => exact cutEvent_keeps ..

theorem judgeSetTiming_keeps (args : ArgWords) (s : State) : Keeps s (judgeSetTiming args s).2 := by
  unfold judgeSetTiming
  exact checked_keeps fun _ => setTb_keeps (.of_eq rfl rfl rfl)

/-- RATE_LIMIT is clamped to its range (R57). -/
theorem clampDiscipline_rateLimit (d : Discipline) :
    1 ≤ (clampDiscipline d).rateLimit ∧ (clampDiscipline d).rateLimit ≤ 50000 := by
  unfold clampDiscipline clampNat
  dsimp only
  omega

theorem judgeSetDiscipline_keeps (args : ArgWords) (s : State) : Keeps s (judgeSetDiscipline args s).2 := by
  unfold judgeSetDiscipline
  exact checked_keeps fun _ => setDisciplineOf_keeps (clampDiscipline_rateLimit _) s

theorem judgeSetEstimator_keeps (args : ArgWords) (s : State) : Keeps s (judgeSetEstimator args s).2 := by
  unfold judgeSetEstimator
  exact checked_keeps fun _ => writeEstimator_keeps ..

theorem judgeGenerate_keeps (e : TestEvent) (args : ArgWords) (s : State) : Keeps s (judgeGenerate e args s).2 :=
  checked_keeps fun _ => effect_keeps e s

/-! ### Every command -/

/-- From a state with no transfer on the pins. -/
theorem Keeps.of_quiet {s t : State} (h : Keeps s.quiet t) : Keeps s t := Keeps.trans (t := s.quiet) {} h

/-- Every command but power-on reset has a next state, and it keeps everything. -/
theorem exec_keeps {c : Instr} (hc : ∀ b m, c ≠ .powerOnReset b m) (s : State) :
    ∃ t, exec c s = .next t ∧ Keeps s t := by
  cases c
  case powerOnReset b m => exact absurd rfl (hc b m)
  case payloadWrite w => exact ⟨_, rfl, .of_quiet (presentWrite_keeps ..)⟩
  case commit w => exact ⟨_, rfl, .of_quiet (presentWrite_keeps ..)⟩
  case roleDiscard w => exact ⟨_, rfl, .of_quiet (presentWrite_keeps ..)⟩
  case slotRead r => exact ⟨_, rfl, .of_quiet (presentRead_keeps ..)⟩
  case departureRead r => exact ⟨_, rfl, .of_quiet (presentRead_keeps ..)⟩
  case departureReadData words error => exact ⟨_, rfl, .of_quiet (answerTurn_keeps ..)⟩
  case arrivalHeaderWrite w => exact ⟨_, rfl, .of_quiet (presentWrite_keeps ..)⟩
  case receiveCommit w => exact ⟨_, rfl, .of_quiet (presentWrite_keeps ..)⟩
  case statusWord w => exact ⟨_, rfl, .of_quiet (presentWrite_keeps ..)⟩
  case translatedWrite w => exact ⟨_, rfl, .of_quiet (presentWrite_keeps ..)⟩
  case translatedRead r => exact ⟨_, rfl, .of_quiet (presentRead_keeps ..)⟩
  case controlPageWrite w => exact ⟨_, rfl, .of_quiet (presentWrite_keeps ..)⟩
  case offerAdmit => exact ⟨_, rfl, .of_quiet (admitOldest_keeps _)⟩
  case busyRefusal w => exact ⟨_, rfl, .of_quiet (presentAndAdmit_keeps ..)⟩
  case writeDrain => exact ⟨_, rfl, .of_quiet (drainTurn_keeps _)⟩
  case readIssue => exact ⟨_, rfl, .of_quiet (readTurn_keeps _)⟩
  case readReturn words error => exact ⟨_, rfl, .of_quiet (answerTurn_keeps ..)⟩
  case memoryWriteError addr owner => exact ⟨_, rfl, .of_quiet (writeError_keeps ..)⟩
  case captureEvent => exact ⟨_, rfl, .of_quiet (takeRefpRise_keeps _)⟩
  case captureEvaluation => exact ⟨_, rfl, .of_quiet (evaluateCapture_keeps _)⟩
  case watchExpiry => exact ⟨_, rfl, .of_quiet (takeWatch_keeps _)⟩
  case boundary => exact ⟨_, rfl, .of_quiet (takeBoundary_keeps _)⟩
  case updateEvent =>
    refine ⟨_, rfl, .of_quiet ?_⟩
    split
    exacts [takeBoundary_keeps _, .refl _]
  case statsEvent =>
    refine ⟨_, rfl, .of_quiet ?_⟩
    split
    exacts [takeBoundary_keeps _, .refl _]
  case probationCountdownEnd p => exact ⟨_, rfl, .of_quiet (takeCountdownEnd_keeps ..)⟩
  case farEndLapse p => exact ⟨_, rfl, .of_quiet (takeLapse_keeps ..)⟩
  case statusTimerExpiry p => exact ⟨_, rfl, .of_quiet (takeTimer_keeps ..)⟩
  case cutEdge => exact ⟨_, rfl, .of_quiet (takeCutRise_keeps _)⟩
  case recordPlacement => exact ⟨_, rfl, .of_quiet (placeNext_keeps _)⟩
  case consumerIndexWrite w => exact ⟨_, rfl, .of_quiet (presentAndAdmit_keeps ..)⟩
  case acknowledge w => exact ⟨_, rfl, .of_quiet (presentAndAdmit_keeps ..)⟩
  case argumentReadError => exact ⟨_, rfl, .of_quiet (argumentError_keeps _)⟩
  case badCommand args => exact ⟨_, rfl, .of_quiet (judge_keeps (fun s => .refl s) _)⟩
  case setAgent args => exact ⟨_, rfl, .of_quiet (judge_keeps (fun s => checked_keeps fun _ => {}) _)⟩
  case setTiming args =>
    exact ⟨_, rfl, .of_quiet (judge_keeps (judgeSetTiming_keeps args) _)⟩
  case setTime args => exact ⟨_, rfl, .of_quiet (judge_keeps (judgeSetTime_keeps args) _)⟩
  case setDiscipline args =>
    exact ⟨_, rfl, .of_quiet (judge_keeps (judgeSetDiscipline_keeps args) _)⟩
  case setLayout args => exact ⟨_, rfl, .of_quiet (judge_keeps (judgeSetLayout_keeps args) _)⟩
  case setWindow args => exact ⟨_, rfl, .of_quiet (judge_keeps (fun s => checked_keeps fun _ => {}) _)⟩
  case setPath args =>
    exact ⟨_, rfl, .of_quiet (judge_keeps (fun s => checked_keeps fun _ => writeSettings_keeps ..) _)⟩
  case setHealth args =>
    refine ⟨_, rfl, .of_quiet (judge_keeps (fun s => checked_keeps fun _ => writeHealth_keeps _ ?_ s) _)⟩
    exact Nat.le_max_left ..
  case setEstimator args =>
    exact ⟨_, rfl, .of_quiet (judge_keeps (judgeSetEstimator_keeps args) _)⟩
  case setRoute args =>
    exact ⟨_, rfl, .of_quiet (judge_keeps (fun s => checked_keeps fun _ => writePreload_keeps ..) _)⟩
  case setRing args => exact ⟨_, rfl, .of_quiet (judge_keeps (fun s => checked_keeps fun _ => {}) _)⟩
  case setRingGroup args => exact ⟨_, rfl, .of_quiet (judge_keeps (fun s => checked_keeps fun _ => {}) _)⟩
  case pathAdminEnable args => exact ⟨_, rfl, .of_quiet (judge_keeps (judgePathAdmin_keeps _ args) _)⟩
  case pathAdminDisable args => exact ⟨_, rfl, .of_quiet (judge_keeps (judgePathAdmin_keeps _ args) _)⟩
  case pathAdminForceDown args => exact ⟨_, rfl, .of_quiet (judge_keeps (judgePathAdmin_keeps _ args) _)⟩
  case pathAdminReleaseCut args => exact ⟨_, rfl, .of_quiet (judge_keeps (judgePathAdmin_keeps _ args) _)⟩
  case apply args => exact ⟨_, rfl, .of_quiet (judge_keeps judgeApply_keeps _)⟩
  case raiseLock args => exact ⟨_, rfl, .of_quiet (judge_keeps (judgeRaiseLock_keeps args) _)⟩
  case generateUpdate args => exact ⟨_, rfl, .of_quiet (judge_keeps (judgeGenerate_keeps _ args) _)⟩
  case generateRefPulse args => exact ⟨_, rfl, .of_quiet (judge_keeps (judgeGenerate_keeps _ args) _)⟩
  case generateCut args => exact ⟨_, rfl, .of_quiet (judge_keeps (judgeGenerate_keeps _ args) _)⟩
  case snapshot args => exact ⟨_, rfl, .of_quiet (beginWork_keeps ..)⟩
  case restart args => exact ⟨_, rfl, .of_quiet (beginWork_keeps ..)⟩
  case restartReset => exact ⟨_, rfl, .of_quiet (finishRestart_keeps _)⟩
  case timeIncrement refp cutN => exact ⟨_, rfl, .of_quiet ((settle_keeps _).trans (clockPeriod_keeps ..))⟩
  case refpFallingEdge => exact ⟨_, rfl, .of_quiet (takeRefpFall_keeps _)⟩
  case cutLineDeasserted => exact ⟨_, rfl, .of_quiet (takeCutFall_keeps _)⟩

/-! ### The invariants after reset and after every step -/

/-- Every invariant of the part. -/
structure State.Sound (s : State) : Prop where
  queue : s.queueBounded
  slots : s.slotsBounded
  arrivals : s.arrivalsBounded
  records : s.recordsBounded
  mergers : s.mergersWhole
  probations : s.probationsCounted
  reads : s.readsOrdered
  routes : s.routesLegal
  rate : s.rateBounded
  time : s.timeInRange
  estimates : s.estimatesBounded

/-- Power-on reset gives every invariant, whatever the straps (R18). -/
theorem powerOn_sound (ctlBase : BitVec 8) (mgmtTag : Tag) : (State.powerOn ctlBase mgmtTag).Sound where
  queue := Nat.zero_le _
  slots := restart_slotsBounded rfl
  arrivals := restart_arrivalsBounded rfl
  records := Nat.zero_le _
  mergers := restart_mergersWhole rfl
  probations := restart_probationsCounted rfl
  reads := ⟨fun _ h => (nomatch h), List.nodup_nil, fun _ h => (nomatch h)⟩
  routes := restart_routesLegal rfl
  rate := ⟨(by decide : 1 ≤ 20000), (by decide : 20000 ≤ 50000), Nat.zero_le _⟩
  time := ⟨(by decide : 0 < 1000000000), (by decide : 0 < 4294967296)⟩
  estimates := restart_estimatesBounded rfl

theorem powerOnReset_sound (ctlBase : BitVec 8) (mgmtTag : Tag) (s : State) : (powerOnReset ctlBase mgmtTag s).Sound :=
  have h := powerOn_sound ctlBase mgmtTag
  ⟨h.queue, h.slots, h.arrivals, h.records, h.mergers, h.probations, h.reads, h.routes, h.rate, h.time, h.estimates⟩

theorem State.Sound.lists {s : State} (h : s.Sound) : s.listsBounded := (listsBounded_iff _).2 ⟨h.slots, h.arrivals, h.records⟩

/-- A step runs a command: power-on reset leads to a sound state, every other command keeps everything but the queue of
commands; with no command the part idles. -/
theorem step_cases {s t : State} (h : step s = .next t) : t.Sound ∨ ∃ rest, Keeps { s with pending := rest } t := by
  unfold step at h
  split at h
  next =>
    obtain rfl := Host.Outcome.next.inj h
    exact .inr ⟨s.pending, .refl s⟩
  next c rest _ =>
    by_cases hc : ∃ b m, c = .powerOnReset b m
    · obtain ⟨b, m, rfl⟩ := hc
      obtain rfl := Host.Outcome.next.inj h
      exact .inl (powerOnReset_sound b m _)
    · obtain ⟨u, hu, hk⟩ := exec_keeps (c := c) (fun b m e => hc ⟨b, m, e⟩) { s with pending := rest }
      obtain rfl := Host.Outcome.next.inj (hu.symm.trans h)
      exact .inr ⟨rest, hk⟩

/-! ### The tier 1 statements of the machine -/

/-- Settles O1: both parts are `step` on the shape of its queue. -/
theorem stepRunsTheFrontCommand : Obligations.StepRunsTheFrontCommand := by
  refine ⟨fun s c rest h => ?_, fun s h => ?_⟩
  all_goals
    unfold step
    rw [h]

/-- Settles O2: power-on reset puts the queue back, and every other command keeps it. -/
theorem everyCommandGoesOn : Obligations.EveryCommandGoesOn := by
  intro c s
  by_cases hc : ∃ b m, c = .powerOnReset b m
  · obtain ⟨b, m, rfl⟩ := hc
    exact ⟨_, rfl, rfl⟩
  · obtain ⟨t, ht, hk⟩ := exec_keeps (c := c) (fun b m e => hc ⟨b, m, e⟩) s
    exact ⟨t, ht, hk.pending⟩

/-- Settles O4. -/
theorem invariantsHoldAtReset : Obligations.InvariantsHoldAtReset := by
  have h : State.reset.Sound := powerOn_sound _ _
  exact ⟨h.queue, h.rate, h.time, h.estimates, h.routes, h.lists, h.mergers, h.probations, h.reads⟩

/-! ### Every step -/

/-- Settles O5: from `exec_keeps`, for each list in turn. -/
theorem queuesKeepTheirBounds : Obligations.QueuesKeepTheirBounds := by
  intro s t h
  rcases step_cases h with ht | ⟨_, hk⟩
  · exact ⟨fun _ => ht.queue, fun _ => ht.lists, fun _ => ht.mergers, fun _ => ht.probations, fun _ => ht.reads⟩
  · refine ⟨hk.queue, fun hs => ?_, hk.mergers, hk.probations, hk.reads⟩
    obtain ⟨hslots, harrivals, hrecords⟩ := (listsBounded_iff _).1 hs
    exact (listsBounded_iff _).2 ⟨hk.slots hslots, hk.arrivals harrivals, hk.records hrecords⟩

/-- Settles O6: every installation of a selection is legal for its route's mode and list (R123). -/
theorem routesKeepTheModeTable : Obligations.RoutesKeepTheModeTable := by
  intro s t hs h
  rcases step_cases h with ht | ⟨_, hk⟩
  · exact ht.routes
  · exact hk.routes hs

/-- Settles O7: an increment of at most 8 ns carries at most once (R42), and every change of the rate is clamped (R43). -/
theorem rateAndTimeStayInRange : Obligations.RateAndTimeStayInRange := by
  intro s t hs h
  rcases step_cases h with ht | ⟨_, hk⟩
  · exact ⟨ht.rate, fun _ => ht.time⟩
  · exact hk.clock hs

/-- Settles O8: a word's estimate is clamped as it is taken (R92), and SET_ESTIMATOR clamps them again (R97). -/
theorem estimatesStayBounded : Obligations.EstimatesStayBounded := by
  intro s t hs h
  rcases step_cases h with ht | ⟨_, hk⟩
  · exact ht.estimates
  · exact hk.estimates hs

/-- Settles O9: only RAISE_LOCK and power-on reset write the level, and RAISE_LOCK refuses a lower one. -/
theorem lockLevelNeverDecreases : Obligations.LockLevelNeverDecreases := by
  intro c s t hc h
  obtain ⟨u, hu, hk⟩ := exec_keeps hc s
  obtain rfl := Host.Outcome.next.inj (hu.symm.trans h)
  exact hk.lock

end Sys2Proof.Machine

/-! ## Requests at a free port

Where the Window Decoder sends a request, and what a write or a read that is not split leaves behind (R2, R3, R9 to R16). -/

namespace Sys2Proof.Machine

/-! ### The classification of an address -/

/-- The control page begins at a multiple of 16 MiB (R161). -/
theorem pageBase_toNat (s : State) : s.pageBase.toNat = s.ctlBase.toNat * 16777216 := by
  unfold State.pageBase
  have low : (0 : BitVec 24).toNat = 0 := rfl
  rw [BitVec.toNat_append, low, Nat.or_zero, Nat.shiftLeft_eq]

/-- The control page is 4 KiB from its base (R161). -/
theorem inPage_iff (s : State) (a : Addr) :
    a.toNat / 4096 = s.pageBase.toNat / 4096 ↔
      s.ctlBase.toNat * 16777216 ≤ a.toNat ∧ a.toNat < s.ctlBase.toNat * 16777216 + 4096 := by
  rw [pageBase_toNat]
  omega

theorem classify_of_page {s : State} {a : Addr}
    (h : s.ctlBase.toNat * 16777216 ≤ a.toNat ∧ a.toNat < s.ctlBase.toNat * 16777216 + 4096) :
    s.classify a = .page (a.toNat - s.ctlBase.toNat * 16777216) := by
  unfold State.classify
  rw [if_pos ((inPage_iff s a).2 h)]
  congr 1
  omega

theorem classify_of_hit {s : State} {a : Addr} {w : Window}
    (h : ¬(s.ctlBase.toNat * 16777216 ≤ a.toNat ∧ a.toNat < s.ctlBase.toNat * 16777216 + 4096)) (hw : s.hit a = some w) :
    s.classify a = .window w (a.toNat - w.base.toNat) := by
  unfold State.classify
  rw [if_neg (mt (inPage_iff s a).1 h), hw]

theorem classify_of_no_hit {s : State} {a : Addr}
    (h : ¬(s.ctlBase.toNat * 16777216 ≤ a.toNat ∧ a.toNat < s.ctlBase.toNat * 16777216 + 4096)) (hw : s.hit a = none) :
    s.classify a = .through := by
  unfold State.classify
  rw [if_neg (mt (inPage_iff s a).1 h), hw]

/-- An entry takes an address: enabled, covering it and not mismatched (R9). -/
def Window.takes (l : Layout) (w : Window) (a : Addr) : Bool := w.enabled && w.covers a && !w.mismatched l

theorem takes_iff (l : Layout) (w : Window) (a : Addr) :
    w.takes l a = true ↔
      w.enabled = true ∧ w.base.toNat ≤ a.toNat ∧ a.toNat < w.base.toNat + 65536 * 2 ^ w.sizeExp.val ∧
        (w.kind = .routeTx → 65536 * 2 ^ w.sizeExp.val = l.section) ∧
        (w.kind = .pathTx → 65536 * 2 ^ w.sizeExp.val = 4 * l.section) := by
  unfold Window.takes Window.covers Window.mismatched sizeSuits Window.size
  cases w.kind <;> simp [and_assoc]

/-- The lowest-numbered entry that takes an address is the hit (R9). -/
theorem hit_of_first {s : State} {a : Addr} {i : Fin 8} (hi : (s.windows[i].live).takes s.layout a = true)
    (hfirst : ∀ j : Fin 8, j < i → ¬(s.windows[j].live).takes s.layout a = true) : s.hit a = some s.windows[i].live := by
  refine List.find?_eq_some_iff_getElem.2 ⟨hi, i, by simp, by simp, fun j hj => ?_⟩
  have none_before := hfirst ⟨j, hj.trans i.isLt⟩ hj
  simpa [Window.takes, or_iff_not_imp_left] using none_before

theorem hit_eq_none {s : State} {a : Addr} (h : ∀ i : Fin 8, ¬(s.windows[i].live).takes s.layout a = true) :
    s.hit a = none := by
  refine List.find?_eq_none.2 fun w hw => ?_
  obtain ⟨e, he, rfl⟩ := List.mem_map.1 hw
  obtain ⟨i, hi, rfl⟩ := List.getElem_of_mem he
  simpa [Window.takes] using h ⟨i, by simpa using hi⟩

/-! ### Writes -/

theorem exec_translatedWrite (w : WriteReq) (s : State) : exec (.translatedWrite w) s = .next (presentWrite w s.quiet) := rfl

/-- A write at a free port that is accepted as one offer leaves that offer (R2). -/
theorem presentWrite_offered {s : State} {w : WriteReq} {managed : Bool} {ws : List MemWrite} (hf : s.portFree)
    (hb : inBlock w.addr w.beats.length)
    (h : acceptWrite w true (s.quiet.setWaiting [.write w true]) =
      offerWrites w.tag true managed ws (s.quiet.setWaiting [.write w true])) :
    presentWrite w s.quiet = s.offered w.tag managed ws := by
  rw [presentWrite_free w s hf hb, h, offerWrites_free hf.2]

theorem acceptWrite_through {s : State} {w : WriteReq} (acks : Bool) (h : s.classify w.addr = .through) :
    acceptWrite w acks s = offerWrites w.tag acks false [⟨w.addr, w.beats, .agent w.tag⟩] s := by
  unfold acceptWrite
  rw [h]

theorem acceptWrite_page {s : State} {w : WriteReq} {k : Nat} (acks : Bool) (h : s.classify w.addr = .page k) :
    acceptWrite w acks s =
      offerWrites w.tag acks (s.agents[w.tag].role == .management) [⟨w.addr, w.beats, .agent w.tag⟩] s := by
  unfold acceptWrite
  rw [h]

/-- A status word is snooped from its own path's modem alone (R15). -/
theorem snoopStatus_of_not_snooped {s : State} {offset : Nat} {tag : Tag} {beats : List Beat}
    (h : s.agents[tag].role ≠ .modem ∨ coveredWord offset beats (8 * s.agents[tag].path.val) = none) :
    snoopStatus offset tag beats s = s := by
  have hnone : s.snooped offset tag beats = none := by
    unfold State.snooped
    rcases h with h | h
    · exact if_neg h
    · dsimp only
      rw [h]
      split <;> rfl
  unfold snoopStatus
  rw [hnone]

theorem windowBase_plain {s : State} {win : Window} (h : win.kind = .plain ∨ win.kind = .status) :
    s.windowBase win = blockBase win.transBase := by
  unfold State.windowBase
  rcases h with h | h <;> rw [h]

theorem windowBase_pathTx {s : State} {win : Window} (h : win.kind = .pathTx) :
    s.windowBase win = s.paths[win.path].set.txBase := by
  unfold State.windowBase
  rw [h]

theorem windowBase_pathRx {s : State} {win : Window} (h : win.kind = .pathRx) :
    s.windowBase win = blockBase s.paths[win.path].set.rxBase := by
  unfold State.windowBase
  rw [h]

/-- The windows and writes the part neither steers nor watches (R12, R15). -/
def State.passesThrough (s : State) (w : WriteReq) (win : Window) (offset : Nat) : Prop :=
  win.kind = .plain ∨ win.kind = .pathTx ∨
    win.kind = .status ∧
      (s.agents[w.tag].role ≠ .modem ∨ coveredWord offset w.beats (8 * s.agents[w.tag].path.val) = none) ∨
    win.kind = .pathRx ∧ ¬(s.agents[w.tag].role = .modem ∧ s.agents[w.tag].path = win.path)

/-- A write to a window the part neither steers nor watches is translated and nothing more (R12, R15). -/
theorem acceptWrite_translated {s : State} {w : WriteReq} {win : Window} {offset : Nat} (acks : Bool)
    (hwin : s.classify w.addr = .window win offset) (h : s.passesThrough w win offset) :
    acceptWrite w acks s = offerWrites w.tag acks false [s.translated win offset w.tag w.beats] s := by
  unfold acceptWrite
  rw [hwin]
  rcases h with hk | hk | ⟨hk, hs⟩ | ⟨hk, hm⟩
  · simp only [hk]
  · simp only [hk]
  · simp only [hk, snoopStatus_of_not_snooped hs]
  · have hno : s.isModemOf w.tag win.path = false := by
      unfold State.isModemOf
      simpa using hm
    simp only [hk, hno, Bool.false_eq_true, if_false]

/-- So at a free port: one offer, at the window's destination base plus the offset (R12). -/
theorem presentWrite_translated {s : State} {w : WriteReq} {win : Window} {offset : Nat} {base : Addr} (hf : s.portFree)
    (hb : inBlock w.addr w.beats.length) (hwin : s.classify w.addr = .window win offset)
    (h : s.passesThrough w win offset) (hbase : s.windowBase win = base) :
    presentWrite w s.quiet = s.offered w.tag false
      [⟨base + BitVec.ofNat 32 offset, w.beats.map (swapBeat win.swap), .agent w.tag⟩] := by
  subst hbase
  exact presentWrite_offered hf hb (acceptWrite_translated true hwin h)

/-- Settles O10: the decoder's order of the page, the windows and the rest, and one offer for each write. -/
theorem writesGoToTheirTranslatedAddress : Obligations.WritesGoToTheirTranslatedAddress := by
  refine ⟨fun s a => ⟨classify_of_page, fun hp i hi hfirst => ?hit, fun hp hnone => ?through⟩, fun s w hf hb =>
    ⟨fun h => ?passed, fun k h => ?page, fun win offset h => ⟨fun hk => ?plain, fun hk => ?pathTx, fun hk hm => ?pathRx⟩⟩⟩
  case hit =>
    exact classify_of_hit hp (hit_of_first ((takes_iff ..).2 hi) fun j hj => mt (takes_iff ..).1 (hfirst j hj))
  case through => exact classify_of_no_hit hp (hit_eq_none fun i => mt (takes_iff ..).1 (hnone i))
  case passed => exact congrArg _ (presentWrite_offered hf hb (acceptWrite_through true h))
  case page => exact congrArg _ (presentWrite_offered hf hb (acceptWrite_page true h))
  case plain =>
    exact congrArg _ (presentWrite_translated hf hb h (hk.elim .inl fun hs => .inr (.inr (.inl hs)))
      (windowBase_plain (hk.elim .inl fun hs => .inr hs.1)))
  case pathTx => exact congrArg _ (presentWrite_translated hf hb h (.inr (.inl hk)) (windowBase_pathTx hk))
  case pathRx => exact congrArg _ (presentWrite_translated hf hb h (.inr (.inr (.inr ⟨hk, hm⟩))) (windowBase_pathRx hk))

/-! ### Byte order -/

/-- Byte `k` of a reversed word is byte `7 − k` of the word (R16). -/
theorem extractLsb'_swapBytes (w : Word) {k : Nat} (hk : k < 8) :
    (swapBytes w).extractLsb' (8 * k) 8 = w.extractLsb' (8 * (7 - k)) 8 := by
  apply BitVec.eq_of_getLsbD_eq
  intro i hi
  unfold swapBytes
  rw [BitVec.getLsbD_extractLsb', BitVec.getLsbD_extractLsb']
  change (_ && BitVec.getLsbD (w := 8 + 8 + 8 + 8 + 8 + 8 + 8 + 8) _ _) = _
  simp only [BitVec.getLsbD_append, BitVec.getLsbD_extractLsb']
  interval_cases k <;> interval_cases i <;> rfl

/-- Enable `k` of reversed byte enables is enable `7 − k` (R16). -/
theorem getLsbD_swapEnables (e : BitVec 8) {k : Nat} (hk : k < 8) :
    (swapEnables e).getLsbD k = e.getLsbD (7 - k) := by
  unfold swapEnables
  change BitVec.getLsbD (w := 1 + 1 + 1 + 1 + 1 + 1 + 1 + 1) _ _ = _
  simp only [BitVec.getLsbD_append, BitVec.getLsbD_extractLsb']
  interval_cases k <;> rfl

theorem swapBeat_data (swap : Bool) (b : Beat) {k : Nat} (hk : k < 8) :
    (swapBeat swap b).data.extractLsb' (8 * k) 8 = b.data.extractLsb' (8 * if swap then 7 - k else k) 8 := by
  cases swap with
  | false => rfl
  | true => exact extractLsb'_swapBytes b.data hk

theorem getLsbD_swapEnable (swap : Bool) (e : BitVec 8) {k : Nat} (hk : k < 8) :
    (swapEnable swap e).getLsbD k = e.getLsbD (if swap then 7 - k else k) := by
  cases swap with
  | false => rfl
  | true => exact getLsbD_swapEnables e hk

/-! ### Reads behind the Write Queue -/

theorem overlaps_iff (m : MemRead) (w : MemWrite) :
    overlaps m w = true ↔ ∃ i j : Nat, i < m.enables.length ∧ j < w.beats.length ∧
      (m.addr &&& ~~~7) + BitVec.ofNat 32 (8 * i) = (w.addr &&& ~~~7) + BitVec.ofNat 32 (8 * j) := by
  unfold overlaps wordAligned
  simp only [List.any_eq_true, List.mem_range, beq_iff_eq]
  constructor
  · rintro ⟨i, hi, j, hj, h⟩
    exact ⟨i, j, hi, hj, h⟩
  · rintro ⟨i, j, hi, hj, h⟩
    exact ⟨i, hi, j, hj, h⟩

theorem drainsFor_cons (m : MemRead) (w : MemWrite) (ws : List MemWrite) :
    drainsFor m (w :: ws) =
      if 0 < drainsFor m ws then drainsFor m ws + 1 else if overlaps m w then 1 else 0 := rfl

/-- Nothing has to drain first exactly where no queued write overlaps (R38). -/
theorem drainsFor_eq_zero_iff (m : MemRead) (ws : List MemWrite) :
    drainsFor m ws = 0 ↔ ∀ w ∈ ws, overlaps m w = false := by
  induction ws with
  | nil => simp [drainsFor]
  | cons w ws ih =>
    rw [List.forall_mem_cons, ← ih, drainsFor_cons]
    split
    next later => exact ⟨fun h => absurd h (by omega), fun h => absurd h.2 (by omega)⟩
    next none_later =>
      have zero : drainsFor m ws = 0 := by omega
      cases overlaps m w <;> simp [zero]

/-- The drains end with the last overlapping write (R38). -/
theorem drainsFor_last {m : MemRead} {ws : List MemWrite} {k : Nat} (h : drainsFor m ws = k + 1) :
    (∃ w, ws[k]? = some w ∧ overlaps m w = true) ∧ ∀ w ∈ ws.drop (k + 1), overlaps m w = false := by
  induction ws generalizing k with
  | nil => simp [drainsFor] at h
  | cons w ws ih =>
    rw [drainsFor_cons] at h
    split at h
    next later =>
      obtain ⟨n, rfl⟩ : ∃ n, k = n + 1 := ⟨k - 1, by omega⟩
      exact ih (by omega)
    next none_later =>
      split at h
      next hover =>
        obtain rfl : k = 0 := by omega
        exact ⟨⟨w, rfl, hover⟩, (drainsFor_eq_zero_iff m ws).1 (by omega)⟩
      next => omega

/-- An accepted read is ready, or waits for the last overlapping write (R3, R38). -/
theorem issueLater_halfAccepted (tag : Tag) (addr : Addr) (enables : List (BitVec 8)) (swap last : Bool)
    (d : Option Departure) (s : State) :
    issueLater tag addr enables swap last d s = s.halfAccepted tag addr enables swap last d := by
  unfold issueLater queueRead State.halfAccepted
  dsimp only
  by_cases h : drainsFor ⟨.agent s.nextRead, addr, enables.map (swapEnable swap)⟩ s.queue = 0
  · have none_overlaps : s.queue.any (overlaps ⟨.agent s.nextRead, addr, enables.map (swapEnable swap)⟩) = false := by
      simpa using (drainsFor_eq_zero_iff ..).1 h
    rw [if_pos h, none_overlaps]
    rfl
  · have some_overlaps : s.queue.any (overlaps ⟨.agent s.nextRead, addr, enables.map (swapEnable swap)⟩) = true := by
      simpa using mt (drainsFor_eq_zero_iff ..).2 h
    rw [if_neg h, some_overlaps]
    rfl

/-! ### Reads -/

theorem exec_translatedRead (r : ReadReq) (s : State) : exec (.translatedRead r) s = .next (presentRead r s.quiet) := rfl

theorem acceptRead_passed {s : State} {r : ReadReq} (last : Bool)
    (h : s.classify r.addr = .through ∨ ∃ k, s.classify r.addr = .page k) :
    acceptRead r last s = s.halfAccepted r.tag r.addr r.enables false last none := by
  unfold acceptRead
  rcases h with h | ⟨k, h⟩ <;> rw [h] <;> exact issueLater_halfAccepted ..

/-- A read of a window that is not steered, away from departure processing (R12, R67). -/
theorem acceptRead_translated {s : State} {r : ReadReq} {win : Window} {offset : Nat} (last : Bool)
    (hwin : s.classify r.addr = .window win offset)
    (h : win.kind = .plain ∨ win.kind = .status ∨ win.kind = .pathRx ∨
      win.kind = .pathTx ∧ ¬(s.agents[r.tag].role = .modem ∧ s.agents[r.tag].path = win.path)) :
    acceptRead r last s =
      s.halfAccepted r.tag (s.windowBase win + BitVec.ofNat 32 offset) r.enables win.swap last none := by
  unfold acceptRead
  rw [hwin]
  rcases h with hk | hk | hk | ⟨hk, hm⟩
  · simp only [hk, issueLater_halfAccepted, translate]
  · simp only [hk, issueLater_halfAccepted, translate]
  · simp only [hk, issueLater_halfAccepted, translate]
  · have hno : s.isModemOf r.tag win.path = false := by
      unfold State.isModemOf
      simpa using hm
    simp only [hk, hno, Bool.false_and, Bool.false_eq_true, if_false, issueLater_halfAccepted, translate]

/-- An accepted read at a free port is all that a read leaves there (R3). -/
theorem halfAccepted_free {s : State} (h : s.portWaiting = []) (tag : Tag) (addr : Addr) (enables : List (BitVec 8))
    (swap : Bool) (d : Option Departure) (qs : List PortRequest) :
    ((s.quiet.setWaiting qs).halfAccepted tag addr enables swap true d).setWaiting [] =
      s.readAccepted tag addr enables swap d := by
  have waiting : s.quiet.setWaiting [] = s.quiet := setWaiting_nil s.quiet h
  have moved : ((s.quiet.setWaiting qs).halfAccepted tag addr enables swap true d).setWaiting [] =
      (s.quiet.setWaiting []).halfAccepted tag addr enables swap true d := by
    unfold State.halfAccepted
    dsimp only
    rw [apply_ite (fun t : State => t.setWaiting [])]
    rfl
  rw [moved, waiting]
  rfl

theorem presentRead_accepted {s : State} {r : ReadReq} {addr : Addr} {swap : Bool} {d : Option Departure} (hf : s.portFree)
    (hb : inBlock r.addr r.enables.length)
    (h : acceptRead r true (s.quiet.setWaiting [.read r true]) =
      (s.quiet.setWaiting [.read r true]).halfAccepted r.tag addr r.enables swap true d) :
    presentRead r s.quiet = s.readAccepted r.tag addr r.enables swap d := by
  rw [presentRead_free r s hf hb, h, halfAccepted_free hf.2]

/-- Settles O12: each read by the kind of its window; the order behind the queue and the byte swap as their own lemmas say. -/
theorem readsGoToTheirTranslatedAddress : Obligations.ReadsGoToTheirTranslatedAddress := by
  refine ⟨fun s r hf hb => ⟨fun h => ?passed, fun win offset h => ⟨fun hk => ?plain, fun hk => ?pathRx, fun hk hm => ?pathTx⟩⟩,
    overlaps_iff, fun m ws => ⟨drainsFor_eq_zero_iff m ws, fun k hk => drainsFor_last hk⟩, fun swap b k hk =>
    ⟨swapBeat_data swap b hk, (congrArg (BitVec.getLsbD · k) (swapBeat_en swap b)).trans (getLsbD_swapEnable swap b.en hk),
      getLsbD_swapEnable swap b.en hk⟩⟩
  case passed => exact congrArg _ (presentRead_accepted hf hb (acceptRead_passed true h))
  case plain =>
    rw [← blockBase, ← windowBase_plain (s := s) hk]
    exact congrArg _ (presentRead_accepted hf hb
      (acceptRead_translated true h (hk.elim .inl fun hs => .inr (.inl hs))))
  case pathRx =>
    rw [← blockBase, ← windowBase_pathRx (s := s) hk]
    exact congrArg _ (presentRead_accepted hf hb (acceptRead_translated true h (.inr (.inr (.inl hk)))))
  case pathTx =>
    rw [← windowBase_pathTx (s := s) hk]
    exact congrArg _ (presentRead_accepted hf hb (acceptRead_translated true h (.inr (.inr (.inr ⟨hk, hm⟩)))))

/-! ### One read, or half of one -/

/-- The oldest accepted read, if there is one, has no answer yet (R3). -/
def State.headUnanswered (s : State) : Prop := ∀ x, s.reads.head? = some x → x.answer = none

theorem dropWhile_of_headUnanswered {s : State} (h : s.headUnanswered) (rs : List ReadRec) (hne : s.reads ≠ []) :
    (s.reads ++ rs).takeWhile ReadRec.isAnswered = [] ∧
      (s.reads ++ rs).dropWhile ReadRec.isAnswered = s.reads ++ rs := by
  unfold State.headUnanswered at h
  cases hs : s.reads with
  | nil => exact absurd hs hne
  | cons x xs =>
    rw [hs] at h
    have hx : x.isAnswered = false := by simp [ReadRec.isAnswered, h x rfl]
    simp [hx]

/-- Zeros are zeros in either byte order (R16). -/
theorem zeros_view {count : Nat} (hc : count ≤ 8) (swap : Bool) :
    ((Vector.replicate 8 (0 : Word)).toList.take count).map (fun w => if swap then swapBytes w else w) =
      List.replicate count 0 := by
  have swapped : (if swap then swapBytes 0 else 0) = (0 : Word) := by cases swap <;> decide
  have all : (Vector.replicate 8 (0 : Word)).toList = List.replicate 8 0 := rfl
  rw [all, List.take_replicate, List.map_replicate, Nat.min_eq_left hc]
  exact congrArg (List.replicate count) swapped

/-- A read answered with zeros returns at once where it is the oldest, and waits its turn elsewhere (R3, R13). -/
theorem answerZeros_halfZeroed {s : State} (h : s.headUnanswered) (tag : Tag) {count : Nat} (hc : count ≤ 8)
    (swap last : Bool) : answerZeros tag count swap last s = s.halfZeroed tag count swap last := by
  unfold answerZeros State.halfZeroed
  rw [deliverReads_eq]
  dsimp only
  split
  next hnil =>
    have returned : ReadRec.returned ⟨s.nextRead, tag, count, swap, last, none, some (Vector.replicate 8 0, false)⟩ =
        beatsOut tag false last (List.replicate count 0) := by
      unfold ReadRec.returned
      dsimp only
      rw [zeros_view hc]
    simp only [hnil, List.nil_append, List.takeWhile, List.dropWhile, ReadRec.isAnswered, Option.isSome_some,
      List.flatMap_cons, List.flatMap_nil, List.append_nil, returned, List.foldl_cons, List.foldl_nil]
    rfl
  next hne =>
    obtain ⟨htake, hdrop⟩ := dropWhile_of_headUnanswered h
      [⟨s.nextRead, tag, count, swap, last, none, some (Vector.replicate 8 0, false)⟩] hne
    rw [htake, hdrop]
    simp

/-- Where the Window Decoder sends a read, the part accepts it to (R9, R12, R13, R67). -/
theorem acceptRead_of_readGoes {s : State} {r : ReadReq} {place : Addr} {swap : Bool} {d : Option Departure} (last : Bool)
    (h : s.readGoes r place swap d) : acceptRead r last s = s.halfAccepted r.tag place r.enables swap last d := by
  unfold acceptRead
  obtain ⟨hpass, rfl, rfl, rfl⟩ | ⟨win, offset, hwin, rfl, h⟩ := h
  · exact acceptRead_passed last hpass
  · rw [hwin]
    cases hk : win.kind <;> simp only [hk] at h ⊢
    case plain | status =>
      obtain ⟨rfl, rfl⟩ := h
      rw [issueLater_halfAccepted, windowBase_plain (by simp [hk])]
      rfl
    case pathRx =>
      obtain ⟨rfl, rfl⟩ := h
      rw [issueLater_halfAccepted, windowBase_pathRx hk]
      rfl
    case pathTx =>
      obtain ⟨rfl, rfl⟩ := h
      rw [issueLater_halfAccepted, windowBase_pathTx hk]
      congr 1
      unfold State.isModemOf coversHeader readCovers State.firstSlotWord
      simp only [Bool.decide_and, Bool.and_eq_true, beq_iff_eq, and_assoc]
      rfl
    case routeTx =>
      obtain ⟨rfl, q, rfl, hq⟩ := h
      have hpath : s.slotReadPath win.route (s.slotOf offset) = some q := by
        unfold State.slotReadPath State.slotOf
        split <;> rename_i ho <;> rw [ho] at hq
        · exact congrArg some hq.symm
        · exact hq
      rw [hpath]
      exact issueLater_halfAccepted ..

/-- A read of an unlisted slot of a route with no active path is answered with zeros (R13). -/
theorem acceptRead_of_readZeroed {s : State} {r : ReadReq} {swap : Bool} (last : Bool) (hs : s.headUnanswered)
    (hr : r.enables.length ≤ 8) (h : s.readZeroed r swap) :
    acceptRead r last s = s.halfZeroed r.tag r.enables.length swap last := by
  unfold acceptRead
  obtain ⟨win, offset, hwin, hk, rfl, hslot, hactive⟩ := h
  have hpath : s.slotReadPath win.route (s.slotOf offset) = none := by
    unfold State.slotReadPath State.slotOf
    rw [hslot]
    exact hactive
  rw [hwin]
  simp only [hk, hpath]
  exact answerZeros_halfZeroed hs r.tag hr win.swap last

theorem acceptRead_of_halfTaken {s t : State} {r : ReadReq} {last : Bool} (hs : s.headUnanswered)
    (hr : r.enables.length ≤ 8) (h : s.halfTaken r last t) : acceptRead r last s = t := by
  obtain ⟨place, swap, d, hgoes, rfl⟩ | ⟨swap, hzero, rfl⟩ := h
  · exact acceptRead_of_readGoes last hgoes
  · exact acceptRead_of_readZeroed last hs hr hzero

/-- The requests that wait at the port have no part in the acceptance of another. -/
theorem halfTaken_setWaiting {s t : State} {r : ReadReq} {last : Bool} (h : s.halfTaken r last t)
    (qs : List PortRequest) : (s.setWaiting qs).halfTaken r last (t.setWaiting qs) := by
  obtain ⟨place, swap, d, hgoes, rfl⟩ | ⟨swap, hzero, rfl⟩ := h
  · refine .inl ⟨place, swap, d, hgoes, ?_⟩
    unfold State.halfAccepted
    dsimp only
    rw [apply_ite (fun t : State => t.setWaiting qs)]
    rfl
  · refine .inr ⟨swap, hzero, ?_⟩
    unfold State.halfZeroed
    rw [apply_ite (fun t : State => t.setWaiting qs)]
    rfl

/-- The acceptance of a read leaves the port as open as it was, and the oldest read unanswered. -/
theorem halfTaken_leaves {s t : State} {r : ReadReq} {last : Bool} (h : s.halfTaken r last t) (hs : s.headUnanswered) :
    t.portOpen = s.portOpen ∧ t.portWaiting = s.portWaiting ∧ t.headUnanswered := by
  have appended (x : ReadRec) (hx : s.reads = [] → x.answer = none) :
      ∀ y, (s.reads ++ [x]).head? = some y → y.answer = none := by
    cases hr : s.reads with
    | nil =>
      rintro _ ⟨⟩
      exact hx hr
    | cons z zs =>
      rintro _ ⟨⟩
      exact hs z (by rw [hr]; rfl)
  obtain ⟨place, swap, d, -, rfl⟩ | ⟨swap, -, rfl⟩ := h
  · unfold State.halfAccepted
    dsimp only
    split <;> exact ⟨rfl, rfl, appended _ fun _ => rfl⟩
  · unfold State.halfZeroed
    split
    next hnil => exact ⟨rfl, rfl, hs⟩
    next hne => exact ⟨rfl, rfl, appended _ fun h => absurd h hne⟩

/-! ### Split requests -/

theorem pump_open {s : State} (h : s.portOpen = true) (q : PortRequest) (qs : List PortRequest) :
    pump (q :: qs) s = pump qs (accept q s) := by
  rw [pump, if_pos h]

/-- A closed port accepts nothing (R2). -/
theorem pump_closed {s : State} (h : s.portOpen = false) {qs : List PortRequest} (hne : qs ≠ []) :
    pump qs s = s.setWaiting qs := by
  cases qs with
  | nil => exact absurd rfl hne
  | cons q qs =>
    unfold pump
    rw [h]
    rfl

theorem pumpPort_closed {s : State} (h : s.portOpen = false) {qs : List PortRequest} (hne : qs ≠ []) :
    pumpPort (s.quiet.setWaiting qs) = { s with bus := [], portWaiting := qs } :=
  pump_closed (s := s.quiet.setWaiting qs) h hne

theorem splitRead_halves {r : ReadReq} (ha : wordAligned r.addr = r.addr)
    (hn : beatsBelowBoundary r.addr < r.enables.length) :
    splitRead r =
      [.read ⟨r.tag, r.addr, r.enables.take (beatsBelowBoundary r.addr)⟩ false,
       .read ⟨r.tag, r.addr + BitVec.ofNat 32 (8 * beatsBelowBoundary r.addr), r.enables.drop (beatsBelowBoundary r.addr)⟩
        true] := by
  unfold splitRead
  rw [ha]
  exact if_neg (Nat.not_le.2 hn)

theorem splitWrite_halves {w : WriteReq} (ha : wordAligned w.addr = w.addr)
    (hn : beatsBelowBoundary w.addr < w.beats.length) :
    splitWrite w =
      [.write ⟨w.tag, w.addr, w.beats.take (beatsBelowBoundary w.addr)⟩ false,
       .write ⟨w.tag, w.addr + BitVec.ofNat 32 (8 * beatsBelowBoundary w.addr), w.beats.drop (beatsBelowBoundary w.addr)⟩
        true] := by
  unfold splitWrite
  rw [ha]
  exact if_neg (Nat.not_le.2 hn)

/-- Both halves of a split read at a free port are accepted, one after the other (R4). -/
theorem presentRead_split {s t u : State} {r : ReadReq} (hf : s.portFree) (ha : wordAligned r.addr = r.addr)
    (hn : beatsBelowBoundary r.addr < r.enables.length) (hlen : r.enables.length ≤ 8) (hs : s.headUnanswered)
    (ht : s.quiet.halfTaken ⟨r.tag, r.addr, r.enables.take (beatsBelowBoundary r.addr)⟩ false t)
    (hu : t.halfTaken ⟨r.tag, r.addr + BitVec.ofNat 32 (8 * beatsBelowBoundary r.addr),
      r.enables.drop (beatsBelowBoundary r.addr)⟩ true u) :
    presentRead r s.quiet = u := by
  obtain ⟨hopen, hnone⟩ := hf
  have hwaiting : s.quiet.portWaiting = [] := hnone
  have htake : (r.enables.take (beatsBelowBoundary r.addr)).length ≤ 8 := (List.length_take_le' ..).trans hlen
  have hdrop : (r.enables.drop (beatsBelowBoundary r.addr)).length ≤ 8 := by
    rw [List.length_drop]
    omega
  obtain ⟨topen, twaiting, thead⟩ := halfTaken_leaves ht hs
  obtain ⟨uopen, uwaiting, -⟩ := halfTaken_leaves hu thead
  have halves (qs : List PortRequest) :
      pump
        [.read ⟨r.tag, r.addr, r.enables.take (beatsBelowBoundary r.addr)⟩ false,
         .read ⟨r.tag, r.addr + BitVec.ofNat 32 (8 * beatsBelowBoundary r.addr),
          r.enables.drop (beatsBelowBoundary r.addr)⟩ true] (s.quiet.setWaiting qs) = u := by
    have first := acceptRead_of_halfTaken (s := s.quiet.setWaiting qs) hs htake (halfTaken_setWaiting ht qs)
    have second := acceptRead_of_halfTaken (s := t.setWaiting qs) thead hdrop (halfTaken_setWaiting hu qs)
    rw [pump_open (s := s.quiet.setWaiting qs) hopen, accept, first,
      pump_open (s := t.setWaiting qs) (topen.trans hopen), accept, second]
    exact setWaiting_nil u (uwaiting.trans (twaiting.trans hwaiting))
  unfold presentRead pumpPort
  rw [hwaiting, splitRead_halves ha hn]
  exact halves _

/-- The first half of a split write holds the port: it waits for its admission, and the second half waits behind it (R2,
R4). -/
theorem presentWrite_split_through {s : State} {w : WriteReq} (hf : s.portFree) (ha : wordAligned w.addr = w.addr)
    (hn : beatsBelowBoundary w.addr < w.beats.length) (hw : s.classify w.addr = .through) :
    presentWrite w s.quiet =
      { s with
        bus := []
        portWaiting :=
          [.write ⟨w.tag, w.addr + BitVec.ofNat 32 (8 * beatsBelowBoundary w.addr),
            w.beats.drop (beatsBelowBoundary w.addr)⟩ true]
        offers := s.offers ++
          [⟨.agent w.tag false false, [⟨w.addr, w.beats.take (beatsBelowBoundary w.addr), .agent w.tag⟩]⟩] } := by
  obtain ⟨hopen, hnone⟩ := hf
  have hwaiting : s.quiet.portWaiting = [] := hnone
  unfold presentWrite pumpPort
  rw [hwaiting, splitWrite_halves ha hn, setWaiting_portWaiting, List.nil_append,
    pump_open (s := s.quiet.setWaiting _) hopen, accept,
    acceptWrite_through (s := s.quiet.setWaiting _) (w := ⟨w.tag, w.addr, w.beats.take (beatsBelowBoundary w.addr)⟩) false hw,
    pump_closed ?_ (by simp)]
  · rfl
  · unfold State.portOpen offerWrites presentOffer
    simp [Offer.isAgent]

/-- Settles O11: the halves are taken in turn; only a write's first half closes the port. -/
theorem splitWritesHoldTheirSecondHalf : Obligations.SplitWritesHoldTheirSecondHalf := by
  refine ⟨fun s r hf ha hn hlen hs t u ht hu => ?reads, fun s hclosed => ⟨fun w hb => ?waitingWrite, fun r hb => ?waitingRead⟩,
    fun s w hf ha hn hw => ?write⟩
  case reads =>
    have split := congrArg (Host.Outcome.next (φ := Fault) (ρ := Refusal)) (presentRead_split hf ha hn hlen hs ht hu)
    exact ⟨split, split, split⟩
  case waitingWrite =>
    rw [exec_translatedWrite, presentWrite, splitWrite_whole w hb]
    exact congrArg _ (pumpPort_closed hclosed (by simp))
  case waitingRead =>
    rw [exec_translatedRead, presentRead, splitRead_whole r hb]
    exact congrArg _ (pumpPort_closed hclosed (by simp))
  case write => exact congrArg _ (presentWrite_split_through hf ha hn hw)

end Sys2Proof.Machine

/-! ## Discards, openings and commits

The writes of a route window that are not copies of a listed slot's payload (R13, R23 to R31). -/

namespace Sys2Proof.Machine

/-! ### The pins and the port beside an operation -/

/-- The state with other transfers on the pins and other requests at the port. -/
def State.withPort (s : State) (bus : List BusOut) (qs : List PortRequest) : State :=
  { s with bus := bus, portWaiting := qs }

theorem submit_eq (r : Report) (s : State) :
    submit r s =
      if s.rings[r.kind.ring].mask.getLsbD r.kind.code then s
      else if (s.writeList.filter ListItem.isRecord).length < 8 then { s with writeList := s.writeList ++ [.record r] }
      else s.dropped r := by
  rw [← countDrop_dropped]
  rfl

/-- A report looks at nothing on the pins or at the port (R176). -/
theorem submit_withPort (r : Report) (s : State) (bus : List BusOut) (qs : List PortRequest) :
    submit r (s.withPort bus qs) = (submit r s).withPort bus qs := by
  have dropped : (s.withPort bus qs).dropped r = (s.dropped r).withPort bus qs := by
    unfold State.dropped
    dsimp only
    rw [apply_ite (fun t : State => t.withPort bus qs)]
    rfl
  rw [submit_eq, submit_eq, dropped, apply_ite (fun t : State => t.withPort bus qs),
    apply_ite (fun t : State => t.withPort bus qs)]
  rfl

/-! ### Discards -/

theorem exec_roleDiscard (w : WriteReq) (s : State) : exec (.roleDiscard w) s = .next (presentWrite w s.quiet) := rfl

theorem exec_commit (w : WriteReq) (s : State) : exec (.commit w) s = .next (presentWrite w s.quiet) := rfl

/-- The SLOT_EVENT of a discard names no path (R13, R26). -/
def State.discardReport (s : State) (cause : BitVec 8) (r : Route) (slot : Nat) (tag : Tag) : Report :=
  ⟨.slotEvent, BitVec.ofNat 8 r.val, cause, stampWord s.reading 0, [u32 slot, 255, 0, 255, 0, 0, u32 tag.val]⟩

/-- A write by an agent that is no FRAME_ENGINE (R13), at a port. -/
theorem discardRole_withPort (r : Route) (offset : Nat) (swap : Bool) (w : WriteReq) (s : State)
    (qs : List PortRequest) :
    (discardRole ⟨r, offset, swap, w.tag, w.beats, true⟩ (s.withPort [] qs)).setWaiting [] =
      (submit (s.discardReport 3 r (offset / s.layout.slot) w.tag)
        (s.setSteer r { s.steer[r] with roleDiscards := min 65535 (s.steer[r].roleDiscards + 1) })).withPort
        [.ack w.tag] [] := by
  rw [← sat16_eq]
  have reported := submit_withPort (s.discardReport 3 r (offset / s.layout.slot) w.tag)
    (s.setSteer r { s.steer[r] with roleDiscards := sat16 (s.steer[r].roleDiscards + 1) }) [] qs
  exact congrArg (fun t : State => (emit (.ack w.tag) t).setWaiting []) reported

/-- The state after a dark discard, its acknowledgement apart (R26). -/
def State.darkDiscarded (s : State) (r : Route) (slot : Nat) (tag : Tag) : State :=
  let st := s.steer[r]
  let counted := s.setSteer r { st with darkDiscards := min 4294967295 (st.darkDiscards + 1), darkReported := true }
  if st.darkReported then counted else submit (s.discardReport 2 r slot tag) counted

theorem darkDiscard_withPort (r : Route) (offset : Nat) (swap : Bool) (w : WriteReq) (s : State)
    (qs : List PortRequest) :
    (darkDiscard ⟨r, offset, swap, w.tag, w.beats, true⟩ (s.withPort [] qs)).setWaiting [] =
      (s.darkDiscarded r (offset / s.layout.slot) w.tag).withPort [.ack w.tag] [] := by
  have reported := submit_withPort (s.discardReport 2 r (offset / s.layout.slot) w.tag)
    (s.setSteer r { s.steer[r] with darkDiscards := sat32 (s.steer[r].darkDiscards + 1), darkReported := true }) [] qs
  unfold darkDiscard State.darkDiscarded
  dsimp only
  rw [← sat32_eq]
  have flag : (s.withPort [] qs).steer[r].darkReported = s.steer[r].darkReported := rfl
  rw [flag]
  split
  · rfl
  · exact congrArg (fun t : State => (emit (.ack w.tag) t).setWaiting []) reported

/-- A route in DARK answers no targets (R133). -/
theorem targets_dark {s : State} {r : Route} (h : s.routes[r].chosen.mode = .dark) : s.targets r = (none, s) := by
  unfold State.targets
  dsimp only
  rw [h]

/-- Every write of a frame engine to an unlisted slot of a DARK route is discarded, commit or not (R26). -/
theorem steerWrite_dark {s : State} {w : RouteWrite} (hslot : s.openSlot w.route (s.slotOf w.offset) = none)
    (hmode : s.routes[w.route].chosen.mode = .dark) : steerWrite w s = darkDiscard w s := by
  have payload : steerPayload w s = darkDiscard w s := by
    unfold steerPayload
    rw [hslot, targets_dark hmode]
  have commit (word : Word) : steerCommit w word s = darkDiscard w s := by
    unfold steerCommit
    rw [hslot, targets_dark hmode]
  unfold steerWrite
  split
  · split
    exacts [commit _, payload]
  · exact payload

/-- What a discard leaves at a free port. -/
theorem withPort_acked {s t : State} {tag : Tag} (hf : s.portFree) (h : t.portWaiting = s.portWaiting) :
    t.withPort [.ack tag] [] = { t with bus := [.ack tag] } := by
  have hnone : t.portWaiting = [] := h.trans hf.2
  unfold State.withPort
  rw [← hnone]

/-- Settles O13: neither discard reaches the Write Queue, and each is acknowledged in the step. -/
theorem discardsAreAcknowledgedAndCounted : Obligations.DiscardsAreAcknowledgedAndCounted := by
  intro s w role win offset hw
  obtain ⟨hfree, hblock, hrole, hkind, hwin⟩ := hw
  refine ⟨fun hne => ?role, fun hfe hslot hdark => ?dark⟩
  case role =>
    have accepted : acceptWrite w true (s.withPort [] [.write w true]) =
        discardRole ⟨win.route, offset, win.swap, w.tag, w.beats, true⟩ (s.withPort [] [.write w true]) := by
      have hwin' : (s.withPort [] [.write w true]).classify w.addr = .window win offset := hwin
      have hno : ¬(s.withPort [] [.write w true]).agents[w.tag].role = .frameEngine := fun h => hne (hrole.symm.trans h)
      unfold acceptWrite
      rw [hwin']
      simp only [hkind, if_neg hno]
    have left := presentWrite_free w s hfree hblock
    rw [exec_roleDiscard, left]
    refine congrArg _ ((congrArg (State.setWaiting · []) accepted).trans ?_)
    rw [discardRole_withPort]
    exact withPort_acked hfree (submit_only ..).portWaiting
  case dark =>
    subst hfe
    have dark := steerWrite_dark (s := s.withPort [] [.write w true])
      (w := ⟨win.route, offset, win.swap, w.tag, w.beats, true⟩) hslot hdark
    have left := presentWrite_routeTx_frameEngine ⟨hfree, hblock, hrole, hkind, hwin⟩
    have discarded : presentWrite w s.quiet =
        { s.darkDiscarded win.route (offset / s.layout.slot) w.tag with bus := [.ack w.tag] } := by
      rw [left]
      refine (congrArg (State.setWaiting · []) dark).trans ?_
      rw [darkDiscard_withPort]
      refine withPort_acked hfree ?_
      unfold State.darkDiscarded
      dsimp only
      split
      exacts [rfl, (submit_only ..).portWaiting]
    exact ⟨congrArg _ discarded, congrArg _ discarded⟩

/-! ### Openings -/

/-- A targets question looks at nothing on the pins or at the port (R133). -/
theorem targets_withPort (s : State) (r : Route) (bus : List BusOut) (qs : List PortRequest) :
    (s.withPort bus qs).targets r = ((s.targets r).1, (s.targets r).2.withPort bus qs) := by
  have probe : (s.withPort bus qs).probe = s.probe := rfl
  have routes : (s.withPort bus qs).routes = s.routes := rfl
  unfold State.targets
  dsimp only
  rw [probe, routes]
  split <;> rfl

/-- A targets question moves the route's record alone (R133, R134). -/
theorem targets_routes (s : State) (r : Route) : ∃ rs, (s.targets r).2 = { s with routes := rs } := by
  unfold State.targets
  dsimp only
  split
  exacts [⟨_, rfl⟩, ⟨_, rfl⟩, ⟨_, rfl⟩, ⟨_, rfl⟩]

/-- The SLOT_EVENT of a record that leaves its list uncommitted (R24). -/
def State.abandonReport (s : State) (r : Route) (o : OpenSlot) : Report :=
  ⟨.slotEvent, BitVec.ofNat 8 r.val, 1, stampWord s.reading 0,
    [u32 o.slot, u32 o.binding.primary.val,
     (match o.binding.extra with | none => 0 | some (.mirror, _) => 1 | some (.probe, _) => 2),
     (match o.binding.extra with | none => 255 | some (_, q) => u32 q.val),
     u32 o.opened.sec.toNat, u32 o.opened.ns, 255]⟩

/-- An eviction counts and reports (R24). -/
theorem abandon_eq (r : Route) (o : OpenSlot) (s : State) :
    abandon r o s = submit (s.abandonReport r o)
      (s.setSteer r { s.steer[r] with abandoned := min 4294967295 (s.steer[r].abandoned + 1) }) := by
  obtain ⟨slot, ⟨p, extra⟩, opened⟩ := o
  unfold abandon slotEvent State.abandonReport makeReport
  rw [sat32_eq]
  match extra with
  | none => rfl
  | some (.mirror, q) => rfl
  | some (.probe, q) => rfl

/-- A list with room keeps its records when a slot opens (R23). -/
theorem openNew_room {r : Route} {s : State} (h : s.steer[r].openSlots.length < 4) (slot : Nat) (b : Binding) :
    openNew r slot b s =
      s.setSteer r { s.steer[r] with openSlots := s.steer[r].openSlots ++ [⟨slot, b, s.tb.time⟩] } := by
  have room : makeRoom r s = s := by
    unfold makeRoom
    split
    next o rest hlist =>
      rw [hlist] at h
      exact if_pos h
    next => rfl
  unfold openNew
  rw [room]

/-- A replacement of one route's record, twice, is the later one. -/
theorem setSteer_setSteer (s : State) (r : Route) (x y : SteerRoute) : (s.setSteer r x).setSteer r y = s.setSteer r y := by
  unfold State.setSteer
  simp

theorem setSteer_same (s : State) (r : Route) (x : SteerRoute) : (s.setSteer r x).steer[r] = x := by
  rw [setSteer_get, if_pos rfl]

/-- A report leaves the Steering Unit's records, and its own record does not look at them (R176). -/
theorem submit_setSteer (rep : Report) (s : State) (r : Route) (x : SteerRoute) :
    submit rep (s.setSteer r x) = (submit rep s).setSteer r x := by
  have dropped : (s.setSteer r x).dropped rep = (s.dropped rep).setSteer r x := by
    unfold State.dropped
    dsimp only
    rw [apply_ite (fun t : State => t.setSteer r x)]
    rfl
  rw [submit_eq, submit_eq, dropped, apply_ite (fun t : State => t.setSteer r x),
    apply_ite (fun t : State => t.setSteer r x)]
  rfl

/-- A full list loses its oldest record when a slot opens, counted and reported (R23, R24). -/
theorem openNew_full {r : Route} {s : State} {o : OpenSlot} {rest : List OpenSlot}
    (h : s.steer[r].openSlots = o :: rest) (hfull : rest.length = 3) (slot : Nat) (b : Binding) :
    openNew r slot b s =
      submit (s.abandonReport r o)
        (s.setSteer r
          { s.steer[r] with
            openSlots := rest ++ [⟨slot, b, s.tb.time⟩]
            abandoned := min 4294967295 (s.steer[r].abandoned + 1) }) := by
  have room : makeRoom r s = submit (s.abandonReport r o)
      (s.setSteer r { s.steer[r] with openSlots := rest, abandoned := min 4294967295 (s.steer[r].abandoned + 1) }) := by
    have full : ¬rest.length + 1 < Config.slotRecords := by
      rw [hfull]
      decide
    unfold makeRoom
    rw [h]
    dsimp only
    rw [if_neg full, abandon_eq, setSteer_same, setSteer_setSteer]
    rfl
  unfold openNew
  rw [room]
  dsimp only
  rw [submit_setSteer, setSteer_same, setSteer_setSteer, setSteer_tb, (submit_only ..).tb, submit_setSteer]

/-- An offer made beside the pins and the port is all that is left of a write there. -/
theorem offerWrites_withPort {s : State} (h : s.portWaiting = []) (tag : Tag) (ws : List MemWrite) (qs : List PortRequest) :
    (offerWrites tag true false ws (s.withPort [] qs)).setWaiting [] = s.offered tag false ws :=
  offerWrites_free h tag false ws qs

/-- A payload write to an unlisted slot of a route with targets: the slot opens, and the copies are offered (R23, R25). -/
theorem steerPayload_opens {s u : State} {w : RouteWrite} {b : Binding}
    (hslot : s.openSlot w.route (s.slotOf w.offset) = none) (ht : s.targets w.route = (some b, u)) :
    steerPayload w s =
      offerWrites w.tag w.acks false (u.payloadCopies w b) (openNew w.route (u.slotOf w.offset) b u) := by
  unfold steerPayload
  rw [hslot, ht]

/-- The copies of a payload write, by the layout and the transmit bases (R19, R22). -/
theorem payloadCopies_congr {s t : State} (hp : t.paths = s.paths) (hl : t.layout = s.layout) (w : RouteWrite)
    (b : Binding) : t.payloadCopies w b = s.payloadCopies w b := by
  unfold State.payloadCopies State.copyWrite State.copyAddr State.slotOffset
  rw [hp, hl]

/-- An eviction looks at nothing on the pins or at the port (R24). -/
theorem abandon_withPort (r : Route) (o : OpenSlot) (s : State) (bus : List BusOut) (qs : List PortRequest) :
    abandon r o (s.withPort bus qs) = (abandon r o s).withPort bus qs := by
  rw [abandon_eq, abandon_eq]
  exact submit_withPort (s.abandonReport r o)
    (s.setSteer r { s.steer[r] with abandoned := min 4294967295 (s.steer[r].abandoned + 1) }) bus qs

theorem openNew_withPort (r : Route) (slot : Nat) (b : Binding) (s : State) (bus : List BusOut) (qs : List PortRequest) :
    openNew r slot b (s.withPort bus qs) = (openNew r slot b s).withPort bus qs := by
  have room : makeRoom r (s.withPort bus qs) = (makeRoom r s).withPort bus qs := by
    have same : (s.withPort bus qs).steer = s.steer := rfl
    unfold makeRoom
    rw [same]
    cases s.steer[r].openSlots with
    | nil => rfl
    | cons o rest =>
      dsimp only
      split
      · rfl
      · exact abandon_withPort r o (s.setSteer r { s.steer[r] with openSlots := rest }) bus qs
  unfold openNew
  rw [room]
  generalize makeRoom r s = t
  rfl

/-- At a free port a payload write that opens its slot leaves its offer beside the opening (R2, R25). -/
theorem presentWrite_opens {s u : State} {w : WriteReq} {win : Window} {offset : Nat} {b : Binding}
    (hw : s.writeTo w .frameEngine .routeTx win offset) (hpayload : isCommit (s.slotOffset offset) w.beats = false)
    (hslot : s.openSlot win.route (s.slotOf offset) = none) (ht : s.targets win.route = (some b, u)) :
    presentWrite w s.quiet = (openNew win.route (s.slotOf offset) b u).offered w.tag false
      (s.payloadCopies ⟨win.route, offset, win.swap, w.tag, w.beats, true⟩ b) := by
  obtain ⟨rs, hu⟩ : ∃ rs, u = { s with routes := rs } := by
    obtain ⟨rs, h⟩ := targets_routes s win.route
    exact ⟨rs, (congrArg Prod.snd ht).symm.trans h⟩
  have hwaiting : (openNew win.route (s.slotOf offset) b u).portWaiting = [] := by
    rw [(openNew_only ..).portWaiting, hu]
    exact hw.1.2
  have asked : (s.withPort [] [.write w true]).targets win.route = (some b, u.withPort [] [.write w true]) := by
    rw [targets_withPort, ht]
  have accepted : steerWrite ⟨win.route, offset, win.swap, w.tag, w.beats, true⟩ (s.withPort [] [.write w true]) =
      offerWrites w.tag true false (s.payloadCopies ⟨win.route, offset, win.swap, w.tag, w.beats, true⟩ b)
        ((openNew win.route (s.slotOf offset) b u).withPort [] [.write w true]) := by
    rw [steerWrite_of_not_isCommit hpayload, steerPayload_opens hslot asked,
      payloadCopies_congr (s := s) (t := u.withPort [] _) (by rw [hu]; rfl) (by rw [hu]; rfl), openNew_withPort]
    have slot : (u.withPort [] [.write w true]).slotOf offset = s.slotOf offset := by rw [hu]; rfl
    rw [slot]
  rw [presentWrite_routeTx_frameEngine hw]
  exact (congrArg (State.setWaiting · []) accepted).trans (offerWrites_withPort hwaiting ..)

/-- Settles O15: the copies follow the answered binding, and the record joins the list behind the oldest, which a full list
loses. -/
theorem payloadOpensAnUnlistedSlot : Obligations.PayloadOpensAnUnlistedSlot := by
  intro s u w win offset b hw hpayload hslot ht
  obtain ⟨rs, rfl⟩ : ∃ rs, u = { s with routes := rs } := by
    obtain ⟨rs, h⟩ := targets_routes s win.route
    exact ⟨rs, (congrArg Prod.snd ht).symm.trans h⟩
  have opened := presentWrite_opens hw hpayload hslot ht
  rw [exec_payloadWrite, opened]
  refine ⟨fun hroom => congrArg _ ?room, fun o rest hlist hfull => congrArg _ ?full⟩
  case room =>
    rw [openNew_room (s := { s with routes := rs }) hroom]
    rfl
  case full =>
    rw [openNew_full (s := { s with routes := rs }) hlist hfull]
    rfl

/-! ### Commits -/

theorem steerWrite_of_ready {s : State} {w : RouteWrite} {word : Word}
    (hword : coveredWord (s.slotOffset w.offset) w.beats 0 = some word) (hready : readyBit word = true) :
    steerWrite w s = steerCommit w word s := by
  unfold steerWrite
  rw [hword]
  exact if_pos hready

theorem steerCommit_listed {s : State} {w : RouteWrite} {word : Word} {o : OpenSlot}
    (ho : s.openSlot w.route (s.slotOf w.offset) = some o) :
    steerCommit w word s = commitFrame w word o.binding (closeSlot w.route (s.slotOf w.offset) s) := by
  unfold steerCommit
  rw [ho]

theorem steerCommit_unlisted {s u : State} {w : RouteWrite} {word : Word} {b : Binding}
    (hslot : s.openSlot w.route (s.slotOf w.offset) = none) (ht : s.targets w.route = (some b, u)) :
    steerCommit w word s = commitFrame w word b u := by
  unfold steerCommit
  rw [hslot, ht]

/-- A commit with its paths looks at nothing on the pins or at the port. -/
theorem commitFrame_withPort (w : RouteWrite) (word : Word) (b : Binding) (s : State) (bus : List BusOut)
    (qs : List PortRequest) : commitFrame w word b (s.withPort bus qs) = (commitFrame w word b s).withPort bus qs := by
  obtain ⟨p, extra⟩ := b
  cases extra <;> rfl

/-- A commit at a free port, bound to its paths in state `u` (R27, R29). -/
theorem presentWrite_commit {s u : State} {w : WriteReq} {win : Window} {offset : Nat} {word : Word} {b : Binding}
    (hw : s.writeTo w .frameEngine .routeTx win offset) (hword : coveredWord (s.slotOffset offset) w.beats 0 = some word)
    (hready : readyBit word = true)
    (h : ∀ qs, steerCommit ⟨win.route, offset, win.swap, w.tag, w.beats, true⟩ word (s.withPort [] qs) =
      commitFrame ⟨win.route, offset, win.swap, w.tag, w.beats, true⟩ word b (u.withPort [] qs)) :
    presentWrite w s.quiet =
      (commitFrame ⟨win.route, offset, win.swap, w.tag, w.beats, true⟩ word b u).withPort [] s.portWaiting := by
  have accepted : steerWrite ⟨win.route, offset, win.swap, w.tag, w.beats, true⟩ (s.withPort [] [.write w true]) =
      (commitFrame ⟨win.route, offset, win.swap, w.tag, w.beats, true⟩ word b u).withPort [] [.write w true] := by
    rw [← commitFrame_withPort, ← h]
    exact steerWrite_of_ready hword hready
  rw [presentWrite_routeTx_frameEngine hw, hw.1.2]
  exact congrArg (State.setWaiting · []) accepted

/-- A commit of a listed slot (R27). -/
theorem presentWrite_commit_listed {s : State} {w : WriteReq} {win : Window} {offset : Nat} {word : Word} {o : OpenSlot}
    (hw : s.writeTo w .frameEngine .routeTx win offset) (hword : coveredWord (s.slotOffset offset) w.beats 0 = some word)
    (hready : readyBit word = true) (ho : s.openSlot win.route (s.slotOf offset) = some o) :
    presentWrite w s.quiet =
      (commitFrame ⟨win.route, offset, win.swap, w.tag, w.beats, true⟩ word o.binding
        (closeSlot win.route (s.slotOf offset) s)).withPort [] s.portWaiting :=
  presentWrite_commit hw hword hready fun qs => steerCommit_listed (s := s.withPort [] qs) ho

/-- The Steering Unit's record of a route after a commit of a slot (R27, R31). -/
def SteerRoute.committed (st : SteerRoute) (slot : Nat) (mirrored : Bool) : SteerRoute :=
  { st with
    openSlots := st.openSlots.filter (fun x => x.slot != slot)
    seq := st.seq + 1, commits := min 4294967295 (st.commits + 1)
    mirrored := if mirrored then min 4294967295 (st.mirrored + 1) else st.mirrored }

/-- A binding has a second copy that mirrors the first. -/
def Binding.mirrors (b : Binding) : Bool :=
  match b.extra with
  | some (.mirror, _) => true
  | _ => false

theorem countRouteCommit_closeSlot (r : Route) (slot : Nat) (b : Binding) (s : State) :
    countRouteCommit r b (closeSlot r slot s) = s.setSteer r (s.steer[r].committed slot b.mirrors) := by
  unfold countRouteCommit closeSlot
  dsimp only
  rw [setSteer_same, setSteer_setSteer]
  unfold SteerRoute.committed Binding.mirrors
  rw [← sat32_eq, ← sat32_eq]
  obtain ⟨p, extra⟩ := b
  match extra with
  | none => rfl
  | some (.mirror, q) => rfl
  | some (.probe, q) => rfl

/-- One more commit copy of a path in its period counts (R31). -/
def PathRecord.copied (x : PathRecord) (probe : Bool) : PathRecord :=
  { x with
    period :=
      { x.period with
        commits := min 4294967295 (x.period.commits + 1)
        probes := if probe then min 4294967295 (x.period.probes + 1) else x.period.probes } }

theorem countCommit_eq (probe : Bool) (q : Path) (s : State) :
    countCommit probe q s = s.setPathRec q (s.paths[q].copied probe) := by
  unfold countCommit countPath PathRecord.copied
  dsimp only
  rw [← sat32_eq, ← sat32_eq]

theorem closeSlot_seq (r : Route) (slot : Nat) (s : State) : (closeSlot r slot s).steer[r].seq = s.steer[r].seq := by
  unfold closeSlot
  rw [setSteer_same]

/-- A commit of a slot with one path (R27, R30). -/
theorem commitFrame_single (w : RouteWrite) (word : Word) (p : Path) (s : State) :
    commitFrame w word ⟨p, none⟩ (closeSlot w.route (s.slotOf w.offset) s) =
      offerWrites w.tag w.acks false (s.commitCopy w word s.steer[w.route].seq false p)
        ((advancePathSeq p
          (s.setSteer w.route (s.steer[w.route].committed (s.slotOf w.offset) false))).setPathRec p (s.paths[p].copied false)) := by
  unfold commitFrame
  dsimp only
  rw [countRouteCommit_closeSlot, closeSlot_seq, countCommit_eq]
  rfl

/-- Settles O16: one path's share of a commit, then the offer. -/
theorem commitsAreNumberedStampedAndCounted : Obligations.CommitsAreNumberedStampedAndCounted := by
  intro s w win offset word o p hw hword hready ho hbinding
  rw [exec_commit, presentWrite_commit_listed hw hword hready ho, hbinding]
  refine congrArg _ ?_
  have single := commitFrame_single ⟨win.route, offset, win.swap, w.tag, w.beats, true⟩ word p s
  exact congrArg (State.withPort · [] s.portWaiting) single

/-! ### Commits of two paths -/

/-- What a commit's copy on a path is made of (R28, R66). -/
theorem commitCopy_congr {s t : State} {q : Path} (hbase : t.paths[q].set.txBase = s.paths[q].set.txBase)
    (hlayout : t.layout = s.layout) (htb : t.tb = s.tb) (hseq : t.pathSeq[q] = s.pathSeq[q]) (w : RouteWrite) (word : Word)
    (seq : BitVec 24) (mirrored : Bool) : t.commitCopy w word seq mirrored q = s.commitCopy w word seq mirrored q := by
  unfold State.commitCopy State.ingressWrite State.copyWrite State.copyAddr State.slotOf State.slotOffset State.reading
  rw [hbase, hlayout, htb, hseq]

/-- The transmit sequences after one more copy on a path (R27). -/
def copiedSeqs (seqs : Vector (BitVec 16) 8) (q : Path) : Vector (BitVec 16) 8 := seqs.set q (seqs[q] + 1)

/-- The path records after one more copy on a path (R31). -/
def copiedPaths (paths : Vector PathRecord 8) (probe : Bool) (q : Path) : Vector PathRecord 8 :=
  paths.set q (paths[q].copied probe)

theorem copiedSeqs_get (seqs : Vector (BitVec 16) 8) (q x : Path) :
    (copiedSeqs seqs q)[x] = if q = x then seqs[x] + 1 else seqs[x] := by
  unfold copiedSeqs
  by_cases h : q = x
  · subst h
    simp
  · have hval : q.val ≠ x.val := fun e => h (Fin.ext e)
    simp [h, Vector.getElem_set_ne, hval]

theorem copiedPaths_get (paths : Vector PathRecord 8) (probe : Bool) (q x : Path) :
    (copiedPaths paths probe q)[x] = if q = x then paths[x].copied probe else paths[x] := by
  unfold copiedPaths
  by_cases h : q = x
  · subst h
    simp
  · have hval : q.val ≠ x.val := fun e => h (Fin.ext e)
    simp [h, Vector.getElem_set_ne, hval]

/-- One copy's share of a commit: its path's sequence and counts (R27, R31). -/
def State.copyCounted (s : State) (probe : Bool) (q : Path) : State :=
  { s with pathSeq := copiedSeqs s.pathSeq q, paths := copiedPaths s.paths probe q }

theorem countCommit_copyCounted (probe : Bool) (q : Path) (s : State) :
    countCommit probe q (advancePathSeq q s) = s.copyCounted probe q :=
  countCommit_eq ..

theorem setSteer_commitCopy (s : State) (r : Route) (x : SteerRoute) (w : RouteWrite) (word : Word) (seq : BitVec 24)
    (mirrored : Bool) (q : Path) :
    (s.setSteer r x).commitCopy w word seq mirrored q = s.commitCopy w word seq mirrored q := rfl

/-- The shares of two different paths do not meet. -/
theorem copyCounted_commitCopy {p q : Path} (hpq : p ≠ q) (s : State) (probe : Bool) (w : RouteWrite) (word : Word)
    (seq : BitVec 24) (mirrored : Bool) :
    (s.copyCounted probe p).commitCopy w word seq mirrored q = s.commitCopy w word seq mirrored q := by
  have base : (s.copyCounted probe p).paths[q] = s.paths[q] := (copiedPaths_get ..).trans (if_neg hpq)
  have seq : (s.copyCounted probe p).pathSeq[q] = s.pathSeq[q] := (copiedSeqs_get ..).trans (if_neg hpq)
  have layout : (s.copyCounted probe p).layout = s.layout := rfl
  have tb : (s.copyCounted probe p).tb = s.tb := rfl
  exact commitCopy_congr (by rw [base]) layout tb seq ..

/-- A commit of a slot with two different paths (R27, R30). -/
theorem commitFrame_double (w : RouteWrite) (word : Word) {p q : Path} (hpq : p ≠ q) (kind : ExtraKind) (s : State) :
    commitFrame w word ⟨p, some (kind, q)⟩ (closeSlot w.route (s.slotOf w.offset) s) =
      offerWrites w.tag w.acks false
        (s.commitCopy w word s.steer[w.route].seq true p ++ s.commitCopy w word s.steer[w.route].seq true q)
        (((s.setSteer w.route (s.steer[w.route].committed (s.slotOf w.offset) (kind == .mirror))).copyCounted false
          p).copyCounted (kind == .probe) q) := by
  have mirrors : (⟨p, some (kind, q)⟩ : Binding).mirrors = (kind == .mirror) := by cases kind <;> rfl
  unfold commitFrame
  dsimp only
  rw [countRouteCommit_closeSlot, closeSlot_seq, countCommit_copyCounted, countCommit_copyCounted, mirrors, copyCounted_commitCopy hpq, setSteer_commitCopy,
    setSteer_commitCopy, Option.isSome_some]

/-- What two copies and their offer move of the state. -/
theorem copiesOffered_eq (s : State) (r : Route) (x : SteerRoute) (p q : Path) (probe : Bool) (tag : Tag)
    (ws : List MemWrite) :
    (offerWrites tag true false ws (((s.setSteer r x).copyCounted false p).copyCounted probe q)).withPort [] s.portWaiting =
      { s with
        bus := [], offers := s.offers ++ [agentOffer tag false ws]
        pathSeq := copiedSeqs (copiedSeqs s.pathSeq p) q, paths := copiedPaths (copiedPaths s.paths false p) probe q
        steer := s.steer.set r x r.isLt } := by
  simp only [offerWrites, presentOffer, State.withPort, State.copyCounted, State.setSteer, agentOffer]

theorem copiedSeqs_twice {p q : Path} (hpq : p ≠ q) (seqs : Vector (BitVec 16) 8) (x : Path) :
    (copiedSeqs (copiedSeqs seqs p) q)[x] = if x = p ∨ x = q then seqs[x] + 1 else seqs[x] := by
  rw [copiedSeqs_get, copiedSeqs_get]
  by_cases hq : q = x
  · subst hq
    simp [hpq]
  · by_cases hp : p = x
    · subst hp
      simp [hq]
    · simp [hq, hp, Ne.symm hq, Ne.symm hp]

theorem copiedPaths_twice {p q : Path} (hpq : p ≠ q) (paths : Vector PathRecord 8) (kind : ExtraKind) (x : Path) :
    (copiedPaths (copiedPaths paths false p) (kind == .probe) q)[x] =
      { paths[x] with
        period :=
          { paths[x].period with
            commits := if x = p ∨ x = q then min 4294967295 (paths[x].period.commits + 1) else paths[x].period.commits
            probes :=
              if x = q ∧ kind = .probe then min 4294967295 (paths[x].period.probes + 1)
              else paths[x].period.probes } } := by
  rw [copiedPaths_get, copiedPaths_get]
  by_cases hq : q = x
  · subst hq
    cases kind <;> simp [hpq, PathRecord.copied]
  · by_cases hp : p = x
    · subst hp
      simp [hq, Ne.symm hq, PathRecord.copied]
    · simp [hq, hp, Ne.symm hq, Ne.symm hp]

/-- Settles O17: the two shares touch different paths, so each can be read off by itself. -/
theorem commitsToTwoPathsShareTheRouteSequence : Obligations.CommitsToTwoPathsShareTheRouteSequence := by
  intro s w win offset word o p q kind hw hword hready ho hbinding hpq
  have committed := presentWrite_commit_listed hw hword hready ho
  rw [hbinding] at committed
  have double := commitFrame_double ⟨win.route, offset, win.swap, w.tag, w.beats, true⟩ word hpq kind s
  have left := committed.trans (congrArg (State.withPort · [] s.portWaiting) double)
  rw [copiesOffered_eq] at left
  rw [exec_commit, left]
  refine ⟨_, rfl, rfl, copiedSeqs_twice hpq s.pathSeq, copiedPaths_twice hpq s.paths kind, fun x => ?_, rfl⟩
  refine (setSteer_get s win.route x _).trans ?_
  unfold SteerRoute.committed
  by_cases hx : win.route = x
  · subst hx
    cases kind <;> simp [State.slotOf]
  · simp [hx, Ne.symm hx]

/-! ### Commits of unlisted slots -/

/-- A record behind those of other slots is its slot's own. -/
theorem find?_append_new {os : List OpenSlot} {slot : Nat} (h : os.find? (fun o => o.slot == slot) = none) (b : Binding)
    (opened : Time) :
    (os ++ [(⟨slot, b, opened⟩ : OpenSlot)]).find? (fun o => o.slot == slot) = some ⟨slot, b, opened⟩ := by
  rw [List.find?_append, h]
  simp

theorem filter_append_new {os : List OpenSlot} {slot : Nat} (h : os.find? (fun o => o.slot == slot) = none) (b : Binding)
    (opened : Time) : (os ++ [(⟨slot, b, opened⟩ : OpenSlot)]).filter (fun o => o.slot != slot) = os := by
  have others : ∀ o ∈ os, (o.slot != slot) = true := by simpa using h
  rw [List.filter_append, List.filter_eq_self.2 others]
  simp

/-- The state with a record listed for a slot. -/
def State.listed (s : State) (r : Route) (o : OpenSlot) : State :=
  s.setSteer r { s.steer[r] with openSlots := s.steer[r].openSlots ++ [o] }

theorem openSlot_listed {s : State} {r : Route} {slot : Nat} (h : s.openSlot r slot = none) (b : Binding) (opened : Time) :
    (s.listed r ⟨slot, b, opened⟩).openSlot r slot = some ⟨slot, b, opened⟩ := by
  unfold State.openSlot State.listed
  rw [setSteer_same]
  exact find?_append_new h b opened

/-- A slot that closes as soon as it is listed leaves the list as it was. -/
theorem closeSlot_listed {s : State} {r : Route} {slot : Nat} (h : s.openSlot r slot = none) (b : Binding)
    (opened : Time) : closeSlot r slot (s.listed r ⟨slot, b, opened⟩) = s := by
  unfold closeSlot State.listed
  rw [setSteer_same, setSteer_setSteer, filter_append_new h]
  unfold State.setSteer
  rw [Fin.getElem_fin, Vector.set_getElem_self]

/-- Settles O18: on both sides the commit is bound in the state the Route Selector answers in. -/
theorem unlistedCommitsBindAndClose : Obligations.UnlistedCommitsBindAndClose := by
  intro s u w win offset word b hw hword hready hslot ht
  obtain ⟨rs, rfl⟩ : ∃ rs, u = { s with routes := rs } := by
    obtain ⟨rs, h⟩ := targets_routes s win.route
    exact ⟨rs, (congrArg Prod.snd ht).symm.trans h⟩
  have unlisted := presentWrite_commit (u := { s with routes := rs }) hw hword hready fun qs =>
    steerCommit_unlisted (s := s.withPort [] qs) hslot (by rw [targets_withPort, ht])
  have slot : State.openSlot { s with routes := rs } win.route (offset / s.layout.slot) = none := hslot
  have listed := presentWrite_commit_listed
    (s := State.listed { s with routes := rs } win.route ⟨offset / s.layout.slot, b, s.tb.time⟩) hw hword hready
    (openSlot_listed slot b s.tb.time)
  have closed := closeSlot_listed slot b s.tb.time
  rw [exec_commit, unlisted]
  refine congrArg _ (Eq.trans ?_ listed.symm)
  exact congrArg (fun t => (commitFrame ⟨win.route, offset, win.swap, w.tag, w.beats, true⟩ word b t).withPort []
    s.portWaiting) closed.symm

/-! ### Reads of slots -/

/-- A read at a free port goes where the Window Decoder sends it (R3, R9). -/
theorem presentRead_of_readGoes {s : State} {r : ReadReq} {place : Addr} {swap : Bool} {d : Option Departure}
    (hf : s.portFree) (hb : inBlock r.addr r.enables.length) (h : s.readGoes r place swap d) :
    presentRead r s.quiet = s.readAccepted r.tag place r.enables swap d :=
  presentRead_accepted hf hb (acceptRead_of_readGoes (s := s.quiet.setWaiting [.read r true]) true h)

theorem beatsBelowBoundary_le (a : Addr) : beatsBelowBoundary a ≤ 8 := Nat.sub_le ..

/-- A read at a free port that is answered with zeros (R3, R13). -/
theorem presentRead_of_readZeroed {s : State} {r : ReadReq} {swap : Bool} (hf : s.portFree)
    (hb : inBlock r.addr r.enables.length) (hs : s.headUnanswered) (h : s.readZeroed r swap) :
    presentRead r s.quiet = s.quiet.halfZeroed r.tag r.enables.length swap true := by
  have zeroed : s.quiet.halfTaken r true (s.quiet.halfZeroed r.tag r.enables.length swap true) := .inr ⟨swap, h, rfl⟩
  obtain ⟨-, hwaiting, -⟩ := halfTaken_leaves zeroed hs
  have accepted := acceptRead_of_halfTaken (s := s.quiet.setWaiting [.read r true]) hs
    (hb.2.trans (beatsBelowBoundary_le _)) (halfTaken_setWaiting zeroed [.read r true])
  rw [presentRead_free r s hf hb, accepted]
  exact setWaiting_nil _ (hwaiting.trans hf.2)

/-- Settles O20: an open slot's primary path, the route's active path, or zeros in the read's place. -/
theorem slotReadsFollowTheBinding : Obligations.SlotReadsFollowTheBinding := by
  intro s r win offset hf hb hwin hk
  have goes (q : Path)
      (hq : match s.openSlot win.route (offset / s.layout.slot) with
        | some o => q = o.binding.primary
        | none => s.routes[win.route].chosen.active = some q) :
      exec (.slotRead r) s = .next (s.readAccepted r.tag
        (s.paths[q].set.txBase + BitVec.ofNat 32 (win.route.val * s.layout.section + offset)) r.enables win.swap none) := by
    refine congrArg _ (presentRead_of_readGoes hf hb (.inr ⟨win, offset, hwin, rfl, ?_⟩))
    rw [hk]
    exact ⟨rfl, q, rfl, hq⟩
  have zeroed (hslot : s.openSlot win.route (offset / s.layout.slot) = none)
      (hactive : s.routes[win.route].chosen.active = none) (hs : s.headUnanswered) :
      exec (.slotRead r) s = .next (s.quiet.halfZeroed r.tag r.enables.length win.swap true) :=
    congrArg _ (presentRead_of_readZeroed hf hb hs ⟨win, offset, hwin, hk, rfl, hslot, hactive⟩)
  refine ⟨fun o ho => goes _ ?_, fun hslot a ha => goes a ?_, fun hslot hactive hreads => ?none_waits,
    fun hslot hactive x later hreads hx => ?waits⟩
  · rw [ho]
  · rw [hslot]
    exact ha
  case none_waits =>
    rw [zeroed hslot hactive (by simp [State.headUnanswered, hreads])]
    unfold State.halfZeroed
    rw [if_pos (show s.quiet.reads = [] from hreads)]
    rfl
  case waits =>
    have hs : s.headUnanswered := by
      rintro y hy
      rw [hreads] at hy
      obtain rfl := Option.some.inj hy
      exact hx
    have hne : s.quiet.reads ≠ [] := by simp [hreads]
    rw [zeroed hslot hactive hs]
    unfold State.halfZeroed
    rw [if_neg hne]
    rfl

/-- Settles O21: what departure processing fixes is the Window Decoder's part of a read of a transmit window. -/
theorem departureReadsAreFixedAtAcceptance : Obligations.DepartureReadsAreFixedAtAcceptance := by
  intro s r win offset hf hb hwin hk
  dsimp only
  have goes {d : Option Departure} (h : s.readGoes r (s.paths[win.path].set.txBase + BitVec.ofNat 32 offset) win.swap d) :
      exec (.departureRead r) s = .next (s.readAccepted r.tag
        (s.paths[win.path].set.txBase + BitVec.ofNat 32 offset) r.enables win.swap d) :=
    congrArg _ (presentRead_of_readGoes hf hb h)
  refine ⟨fun hown hcovers => goes (.inr ⟨win, offset, hwin, rfl, ?own⟩), fun hother => goes (.inr ⟨win, offset, hwin, rfl, ?other⟩)⟩
  case own =>
    rw [hk]
    exact ⟨rfl, (if_pos ⟨hown.1, hown.2, hcovers⟩).symm⟩
  case other =>
    rw [hk]
    refine ⟨rfl, (if_neg fun h => ?_).symm⟩
    obtain ⟨hrole, hpath, hcovers⟩ := h
    rcases hother with hno | hno
    · exact hno ⟨hrole, hpath⟩
    · exact absurd (hcovers.symm.trans hno) (by decide)

end Sys2Proof.Machine

/-! ## Answers of memory and turns of the Memory Port

The answer to a read goes back in its place of the return order (R3, R17, R72); reads and writes take turns (R37 to R39). -/

namespace Sys2Proof.Machine

/-! ### Submissions -/

/-- Settles O45: the three branches of a submission. -/
theorem submissionsAreMaskedDroppedOrListed : Obligations.SubmissionsAreMaskedDroppedOrListed := by
  intro s r
  refine ⟨fun hmask => ?_, fun hmask hroom => ?_, fun hmask hfull => ?_⟩
  · rw [submit_eq, if_pos hmask]
  · rw [submit_eq, if_neg (Bool.eq_false_iff.1 hmask), if_pos hroom]
  · rw [submit_eq, if_neg (Bool.eq_false_iff.1 hmask), if_neg (Nat.not_lt.2 hfull)]

/-- A submission reads and moves the rings and the write list alone (R176, R178). -/
theorem submit_moves (rep : Report) (s : State) :
    ∃ rings list, ∀ t : State, t.rings = s.rings → t.writeList = s.writeList →
      submit rep t = { t with rings := rings, writeList := list } := by
  refine ⟨(submit rep s).rings, (submit rep s).writeList, fun t hrings hlist => ?_⟩
  have same : { t with rings := s.rings, writeList := s.writeList } = t := by
    rw [← hrings, ← hlist]
  rw [submit_eq, submit_eq, hrings, hlist]
  split
  · exact same.symm
  · split
    · rw [← hrings]
    · unfold State.dropped
      dsimp only
      rw [hrings, hlist]
      split
      · rfl
      · rw [← hlist]

/-- Settles O43: the owner decides the tag, and a ring record's error makes no report. -/
theorem writeErrorsAreReported : Obligations.WriteErrorsAreReported := by
  intro s addr
  exact ⟨fun tag => rfl, rfl, rfl, rfl⟩

/-! ### The answer to a read -/

theorem exec_readReturn (words : ReadWords) (error : Bool) (s : State) :
    exec (.readReturn words error) s = .next (answerTurn false words error s.quiet) := rfl

theorem exec_departureReadData (words : ReadWords) (error : Bool) (s : State) :
    exec (.departureReadData words error) s = .next (answerTurn true words error s.quiet) := rfl

/-- The oldest issued read belongs to an accepted one, under departure processing or not. -/
theorem issuedAgent_eq {s : State} {m : MemRead} {rest : List MemRead} {rec : ReadRec} {departure : Bool}
    (hissued : s.readIssued = m :: rest) (href : m.ref = .agent rec.id) (hrec : rec ∈ s.reads)
    (hd : rec.departure.isSome = departure) : s.issuedAgent departure = some (rec.id, m) := by
  have found : s.reads.any (fun r => r.id == rec.id && r.departure.isSome == departure) = true :=
    List.any_eq_true.2 ⟨rec, hrec, by simp [hd]⟩
  unfold State.issuedAgent
  rw [hissued]
  dsimp only
  rw [href]
  dsimp only
  rw [if_pos found]

/-- The MEMORY_ERROR record of a read's error (R17). -/
def State.readErrorReport (s : State) (m : MemRead) (rec : ReadRec) : Report :=
  ⟨.memoryError, 0, 1, stampWord s.reading 0, [m.addr, u32 rec.tag.val]⟩

/-- The read with its answer. -/
def ReadRec.answeredWith (rec : ReadRec) (words : ReadWords) (error : Bool) : ReadRec :=
  { rec with answer := some (words, error) }

theorem map_answer {rec : ReadRec} {others : List ReadRec} (h : ∀ x ∈ others, x.id ≠ rec.id) (words : ReadWords)
    (error : Bool) :
    (rec :: others).map (fun r => if r.id = rec.id then { r with answer := some (words, error) } else r) =
      rec.answeredWith words error :: others := by
  rw [List.map_cons, if_pos rfl]
  refine congrArg (_ :: ·) ?_
  exact (List.map_congr_left fun x hx => if_neg (h x hx)).trans (List.map_id _)

/-- The reads that return with the answer to the oldest one: it, and those that have waited for it (R3). -/
theorem answered_takeWhile {rec : ReadRec} {words : ReadWords} {error : Bool} {waiting later : List ReadRec}
    (hw : ∀ x ∈ waiting, x.answer ≠ none) (hl : ∀ x, later.head? = some x → x.answer = none) :
    (rec.answeredWith words error :: (waiting ++ later)).takeWhile ReadRec.isAnswered =
        rec.answeredWith words error :: waiting ∧
      (rec.answeredWith words error :: (waiting ++ later)).dropWhile ReadRec.isAnswered = later := by
  have answered : ∀ x ∈ waiting, x.isAnswered = true := fun x hx => Option.isSome_iff_ne_none.2 (hw x hx)
  have stops : later.takeWhile ReadRec.isAnswered = [] ∧ later.dropWhile ReadRec.isAnswered = later := by
    cases later with
    | nil => exact ⟨rfl, rfl⟩
    | cons x xs =>
      have hx : x.isAnswered = false := by simp [ReadRec.isAnswered, hl x rfl]
      simp [hx]
  have head : (rec.answeredWith words error).isAnswered = true := rfl
  rw [List.takeWhile_cons_of_pos head, List.dropWhile_cons_of_pos head, List.takeWhile_append_of_pos answered,
    List.dropWhile_append_of_pos answered, stops.1, stops.2, List.append_nil]
  exact ⟨rfl, rfl⟩

section
variable {s : State} {rec : ReadRec} {m : MemRead} {rest : List MemRead} {waiting later : List ReadRec} {words : ReadWords}
  {departure : Bool}
  (hissued : s.readIssued = m :: rest) (href : m.ref = .agent rec.id) (hd : rec.departure.isSome = departure)
  (hreads : s.reads = rec :: (waiting ++ later)) (hids : ∀ x ∈ waiting ++ later, x.id ≠ rec.id)
  (hw : ∀ x ∈ waiting, x.answer ≠ none) (hl : ∀ x, later.head? = some x → x.answer = none)
include hissued href hd hreads hids hw hl

/-- The answer to the oldest read, without an error (R3). -/
theorem answerTurn_oldest :
    answerTurn departure words false s.quiet =
      { s with
        bus := (rec.answeredWith words false).returned ++ waiting.flatMap ReadRec.returned
        reads := later, readIssued := rest
        paths := waiting.foldl ReadRec.counted ((rec.answeredWith words false).counted s.paths) } := by
  have issued := issuedAgent_eq (s := s.quiet) hissued href (by simp [hreads]) hd
  obtain ⟨htake, hdrop⟩ := answered_takeWhile (rec := rec) (words := words) (error := false) hw hl
  unfold answerTurn
  rw [issued]
  unfold answerRead
  dsimp only [quiet_readIssued, quiet_reads]
  rw [hissued, hreads, map_answer hids, if_neg (by decide), deliverReads_eq]
  dsimp only
  rw [htake, hdrop]
  rfl

/-- The answer to the oldest read, with an error, which is reported (R3, R17). -/
theorem answerTurn_oldest_error :
    answerTurn departure words true s.quiet =
      { submit (s.readErrorReport m rec) s with
        bus := (rec.answeredWith words true).returned ++ waiting.flatMap ReadRec.returned
        reads := later, readIssued := rest
        paths := waiting.foldl ReadRec.counted ((rec.answeredWith words true).counted s.paths) } := by
  have issued := issuedAgent_eq (s := s.quiet) hissued href (by simp [hreads]) hd
  obtain ⟨htake, hdrop⟩ := answered_takeWhile (rec := rec) (words := words) (error := true) hw hl
  obtain ⟨rings, list, hsubmit⟩ := submit_moves (s.readErrorReport m rec) s
  unfold answerTurn
  rw [issued]
  unfold answerRead
  dsimp only [quiet_readIssued, quiet_reads]
  rw [hissued, hreads, map_answer hids, if_pos rfl, hsubmit s rfl rfl]
  have reported := hsubmit { s.quiet with readIssued := rest, reads := rec.answeredWith words true :: (waiting ++ later) } rfl rfl
  have found : (rec :: (waiting ++ later)).find? (fun r => r.id == rec.id) = some rec := by simp
  rw [found]
  refine (congrArg deliverReads reported).trans ?_
  rw [deliverReads_eq]
  dsimp only
  rw [htake, hdrop]
  rfl

end

/-- Settles O22: the answer finds the oldest read, and nothing waits behind it. -/
theorem departureReadsReturnProcessed : Obligations.DepartureReadsReturnProcessed := by
  intro s rec d m rest words later hreads hlater hd hissued href
  have hids : ∀ x ∈ [] ++ later, x.id ≠ rec.id := fun x hx => (hlater x hx).1
  have hhead : ∀ x, later.head? = some x → x.answer = none := fun x hx => (hlater x (List.mem_of_mem_head? hx)).2
  have hsome : rec.departure.isSome = true := by rw [hd]; rfl
  dsimp only
  rw [exec_departureReadData, exec_departureReadData,
    answerTurn_oldest hissued href hsome (waiting := []) hreads hids (by simp) hhead,
    answerTurn_oldest_error hissued href hsome (waiting := []) hreads hids (by simp) hhead]
  unfold ReadRec.answeredWith ReadRec.returned ReadRec.counted
  dsimp only
  rw [hd]
  simp only [List.flatMap_nil, List.append_nil, List.foldl_nil]
  refine ⟨trivial, ?_⟩
  rw [← (submit_only (s.readErrorReport m rec) s).paths]
  rfl

/-- An answer while an earlier read waits is kept (R3). -/
theorem answerTurn_waits {s : State} {rec first : ReadRec} {m : MemRead} {rest : List MemRead} {later : List ReadRec}
    {departure : Bool} (words : ReadWords) (hissued : s.readIssued = m :: rest) (href : m.ref = .agent rec.id)
    (hd : rec.departure.isSome = departure) (hreads : s.reads = first :: later) (hfirst : first.answer = none)
    (hid : first.id ≠ rec.id) (hrec : rec ∈ later) :
    answerTurn departure words false s.quiet =
      { s with
        bus := [], readIssued := rest
        reads := s.reads.map (fun r => if r.id = rec.id then { r with answer := some (words, false) } else r) } := by
  have issued := issuedAgent_eq (s := s.quiet) hissued href (by simp [hreads, hrec]) hd
  have unanswered : first.isAnswered = false := by simp [ReadRec.isAnswered, hfirst]
  unfold answerTurn
  rw [issued]
  unfold answerRead
  dsimp only [quiet_readIssued, quiet_reads]
  rw [hissued, hreads, if_neg (by decide), deliverReads_eq, List.map_cons, if_neg hid]
  dsimp only
  rw [List.takeWhile_cons_of_neg (by simp [unanswered]), List.dropWhile_cons_of_neg (by simp [unanswered])]
  rfl

/-- Settles O42: the answer to the oldest read takes the waiting ones with it, any other one waits. -/
theorem readDataReturnsInOrder : Obligations.ReadDataReturnsInOrder := by
  intro s rec m rest words hissued href hd
  have hnone : rec.departure.isSome = false := by rw [hd]; rfl
  refine ⟨fun waiting later hreads hids hw hl => ?oldest, fun first later hreads hfirst hid hrec =>
    congrArg _ (answerTurn_waits words hissued href hnone hreads hfirst hid hrec)⟩
  rw [exec_readReturn, exec_readReturn, answerTurn_oldest hissued href hnone hreads hids hw hl,
    answerTurn_oldest_error hissued href hnone hreads hids hw hl]
  unfold ReadRec.answeredWith ReadRec.returned ReadRec.counted
  dsimp only
  rw [hd]
  exact ⟨rfl, rfl⟩

/-! ### Turns -/

theorem exec_writeDrain (s : State) : exec .writeDrain s = .next (drainTurn s.quiet) := rfl

theorem exec_readIssue (s : State) : exec .readIssue s = .next (readTurn s.quiet) := rfl

theorem issueRead_quiet (r : MemRead) (s : State) :
    issueRead r s.quiet =
      { s with
        bus := [.memRead r], readReady := s.readReady.erase r, readIssued := s.readIssued ++ [r]
        fairCount := if s.queue = [] then s.fairCount else s.fairCount + 1 } := by
  unfold issueRead emit
  dsimp only [quiet_queue, quiet_fairCount]
  simp only [List.isEmpty_iff]
  rfl

theorem issueWrite_quiet {s : State} {w : MemWrite} {ws : List MemWrite} (h : s.queue = w :: ws) :
    issueWrite w s.quiet =
      { s with
        bus := [.memWrite w], queue := ws, fairCount := 0
        readWait := (s.readWait.map (fun x => (x.1, x.2 - 1))).filter (fun x => x.2 != 0)
        readReady :=
          s.readReady ++ ((s.readWait.map (fun x => (x.1, x.2 - 1))).filter (fun x => x.2 == 0)).map Prod.fst } := by
  unfold issueWrite emit
  dsimp only [quiet_queue]
  rw [h]
  rfl

theorem readTurn_of_read {s : State} {r : MemRead} (hne : s.readReady ≠ []) (h : s.turn = .read r) :
    readTurn s.quiet = issueRead r s.quiet := by
  have ready : s.quiet.readReady.isEmpty = false := by simpa using hne
  have turn : s.quiet.turn = .read r := h
  unfold readTurn
  rw [ready, turn]
  rfl

theorem readTurn_of_write {s : State} {w : MemWrite} (hne : s.readReady ≠ []) (h : s.turn = .write w) :
    readTurn s.quiet = issueWrite w s.quiet := by
  have ready : s.quiet.readReady.isEmpty = false := by simpa using hne
  have turn : s.quiet.turn = .write w := h
  unfold readTurn
  rw [ready, turn]
  rfl

theorem drainTurn_of_write {s : State} {w : MemWrite} (h : s.turn = .write w) :
    drainTurn s.quiet = issueWrite w s.quiet := by
  have turn : s.quiet.turn = .write w := h
  unfold drainTurn
  rw [turn]

theorem drainTurn_of_read {s : State} {r : MemRead} (h : s.turn = .read r) : drainTurn s.quiet = { s with bus := [] } := by
  have turn : s.quiet.turn = .read r := h
  unfold drainTurn
  rw [turn]
  rfl

/-- A ready read goes first while fewer than eight have gone ahead of the head write (R39). -/
theorem turn_of_ready {s : State} {r : MemRead} {rs : List MemRead} (hready : s.readReady = r :: rs)
    (h : s.queue = [] ∨ s.fairCount < 8) : s.turn = .read r := by
  unfold State.turn
  rw [hready]
  cases hq : s.queue with
  | nil => rfl
  | cons w ws => exact if_pos (h.resolve_left (by simp [hq]))

/-- After eight the head write goes, behind a ready read that overlaps it alone (R39). -/
theorem turn_of_full_count {s : State} {w : MemWrite} {ws : List MemWrite} (hq : s.queue = w :: ws)
    (hne : s.readReady ≠ []) (h : 8 ≤ s.fairCount) :
    s.turn = match s.readReady.find? (fun x => overlaps x w) with | some x => .read x | none => .write w := by
  unfold State.turn
  rw [hq]
  cases hr : s.readReady with
  | nil => exact absurd hr hne
  | cons r rs => exact if_neg (Nat.not_lt.2 h)

/-- Settles O41: by whose turn it is. -/
theorem readsGoFirstEightTimes : Obligations.ReadsGoFirstEightTimes := by
  intro s
  refine ⟨fun w ws hq hr => ?alone, fun r rs hr h => ?ahead, fun w ws hq hne h hno => ?head, fun w ws x hq h hx => ?overlapping⟩
  case alone =>
    have turn : s.turn = .write w := by
      unfold State.turn
      rw [hq, hr]
    rw [exec_writeDrain, drainTurn_of_write turn, issueWrite_quiet hq]
  case ahead =>
    have turn := turn_of_ready hr h
    rw [exec_readIssue, exec_writeDrain, readTurn_of_read (by simp [hr]) turn, drainTurn_of_read turn, issueRead_quiet]
    exact ⟨rfl, rfl⟩
  case head =>
    have turn : s.turn = .write w := by
      rw [turn_of_full_count hq hne h, List.find?_eq_none.2 (by simpa using hno)]
    rw [exec_readIssue, exec_writeDrain, readTurn_of_write hne turn, drainTurn_of_write turn, issueWrite_quiet hq]
    exact ⟨rfl, rfl⟩
  case overlapping =>
    have hne : s.readReady ≠ [] := fun hnil => by simp [hnil] at hx
    have turn : s.turn = .read x := by
      rw [turn_of_full_count hq hne h, hx]
    rw [exec_readIssue, readTurn_of_read hne turn, issueRead_quiet]

end Sys2Proof.Machine

/-! ## The words and counts the part writes

Every field of a slot word, a ring record and a result word, from the fields it is put together from (R80 to R83). -/

namespace Sys2Proof.Machine

/-! ### Fields of words -/

/-- A field that was set is read back (R80). -/
theorem extractLsb'_setField_self (w : Word) (lo len v : Nat) (h : lo + len ≤ 64) :
    (setField w lo len v).extractLsb' lo len = BitVec.ofNat len v := by
  apply BitVec.eq_of_getLsbD_eq
  intro i hi
  have inside : lo ≤ lo + i ∧ lo + i < lo + len := by omega
  rw [BitVec.getLsbD_extractLsb', getLsbD_setField w lo len v (by omega), if_pos inside, BitVec.getLsbD_ofNat,
    Nat.add_sub_cancel_left]

/-- A field keeps its bits where another one is set (R80). -/
theorem extractLsb'_setField_of_disjoint (w : Word) (lo len v a n : Nat) (h : a + n ≤ lo ∨ lo + len ≤ a) (hn : a + n ≤ 64) :
    (setField w lo len v).extractLsb' a n = w.extractLsb' a n := by
  apply BitVec.eq_of_getLsbD_eq
  intro i hi
  have outside : ¬(lo ≤ a + i ∧ a + i < lo + len) := by omega
  rw [BitVec.getLsbD_extractLsb', BitVec.getLsbD_extractLsb', getLsbD_setField w lo len v (by omega), if_neg outside]

theorem toNat_extractLsb'_setField (w : Word) (lo len v : Nat) (h : lo + len ≤ 64) (hv : v < 2 ^ len) :
    ((setField w lo len v).extractLsb' lo len).toNat = v := by
  rw [extractLsb'_setField_self w lo len v h, BitVec.toNat_ofNat, Nat.mod_eq_of_lt hv]

/-- A flag that was set is read back (R80). -/
theorem getLsbD_setField_bit (w : Word) {lo : Nat} (h : lo < 64) (b : Bool) :
    (setField w lo 1 (bit b)).getLsbD lo = b := by
  rw [getLsbD_setField w lo 1 _ h, if_pos (by omega), Nat.sub_self]
  cases b <;> rfl

theorem getLsbD_setField_of_outside (w : Word) (lo len v : Nat) {i : Nat} (hi : i < 64) (h : i < lo ∨ lo + len ≤ i) :
    (setField w lo len v).getLsbD i = w.getLsbD i := by
  rw [getLsbD_setField w lo len v hi, if_neg (by omega)]

/-! ### Slot words -/

/-- The commit word of a copy, field by field (R28, R80). -/
theorem commitWord_fields (word : BitVec 64) (r : Fin 4) (q : Fin 8) (pathSeq : BitVec 16) (routeSeq : BitVec 24)
    (mirrored : Bool) :
    let c := commitWord word r q pathSeq routeSeq mirrored
    c.extractLsb' 0 17 = word.extractLsb' 0 17 ∧ c.getLsbD 17 = false ∧ c.getLsbD 18 = mirrored ∧
      (c.extractLsb' 19 2).toNat = r.val ∧ (c.extractLsb' 21 3).toNat = q.val ∧ c.extractLsb' 24 16 = pathSeq ∧
      c.extractLsb' 40 24 = routeSeq := by
  have hr := r.isLt
  have hq := q.isLt
  unfold commitWord
  refine ⟨?_, ?_, ?_, ?_, ?_, ?_, ?_⟩
  · simp (disch := omega) only [extractLsb'_setField_of_disjoint]
  · exact getLsbD_setField_bit _ (by decide) false
  · rw [getLsbD_setField_of_outside _ _ _ _ (by decide) (by decide), getLsbD_setField_bit _ (by decide)]
  · simp (disch := omega) only [extractLsb'_setField_of_disjoint, toNat_extractLsb'_setField]
  · simp (disch := omega) only [extractLsb'_setField_of_disjoint, toNat_extractLsb'_setField]
  · simp (disch := omega) only [extractLsb'_setField_of_disjoint, extractLsb'_setField_self, BitVec.ofNat_toNat,
      BitVec.setWidth_eq]
  · simp (disch := omega) only [extractLsb'_setField_of_disjoint, extractLsb'_setField_self, BitVec.ofNat_toNat,
      BitVec.setWidth_eq]

/-- A stamp, field by field (R65, R80). -/
theorem stampWord_fields (r : Reading) (p : Fin 8) (hns : r.time.ns < 1000000000) :
    let w := stampWord r p.val
    w.extractLsb' 0 27 = r.time.sec.setWidth 27 ∧ (w.extractLsb' 27 30).toNat = r.time.ns ∧
      w.extractLsb' 57 2 = r.epoch ∧
      (w.extractLsb' 59 2).toNat =
        (match r.quality with | .unset => 0 | .free => 1 | .holdover => 2 | .locked => 3) ∧
      (w.extractLsb' 61 3).toNat = p.val := by
  have hp := p.isLt
  have hq : r.quality.code < 4 := by cases r.quality <;> decide
  unfold stampWord
  refine ⟨?_, ?_, ?_, ?_, ?_⟩
  · simp (disch := omega) only [extractLsb'_setField_of_disjoint, extractLsb'_setField_self, BitVec.ofNat_toNat]
  · simp (disch := omega) only [extractLsb'_setField_of_disjoint, toNat_extractLsb'_setField]
  · simp (disch := omega) only [extractLsb'_setField_of_disjoint, extractLsb'_setField_self, BitVec.ofNat_toNat,
      BitVec.setWidth_eq]
  · simp (disch := omega) only [extractLsb'_setField_of_disjoint, toNat_extractLsb'_setField]
    rfl
  · simp (disch := omega) only [toNat_extractLsb'_setField]

/-- A reading of the Time Base, with its quality (R54, R55). -/
theorem reading_eq (s : State) : s.reading = ⟨s.tb.time, s.tb.epoch,
    if s.tb.secondsSet = false then .unset
    else match s.tb.ref with | .free => .free | .acquiring => .holdover | .holdover => .holdover | .locked => .locked⟩ := by
  unfold State.reading qualityOf
  cases s.tb.secondsSet
  · rfl
  · cases s.tb.ref <;> rfl

/-- The report-back word of a path, field by field (R71, R80). -/
theorem reportBackWord_fields (x : PathRecord) :
    let w := reportBackWord x
    (w.extractLsb' 46 8).toNat = min 255 x.lastLosses ∧
      (w.extractLsb' 54 3).toNat =
        (match x.state with
         | .disabled => 0 | .probation => 1 | .up => 2 | .fading => 3 | .down => 4 | .cut => 5) ∧
      w.getLsbD 57 = x.est.isSome ∧
      (∀ e, x.est = some e →
        (w.extractLsb' 0 30).toNat = min 1073741823 (e / 16) ∧ (w.extractLsb' 30 16).toNat = min 65535 (x.jit / 16) ∧
          (w.extractLsb' 58 6).toNat = min 63 x.rxAge) ∧
      (x.est = none → w.extractLsb' 0 46 = 0 ∧ w.extractLsb' 58 6 = 0) := by
  have hstate : x.state.code < 8 := by cases x.state <;> decide
  have hcode : x.state.code =
      (match x.state with | .disabled => 0 | .probation => 1 | .up => 2 | .fading => 3 | .down => 4 | .cut => 5) := by
    cases x.state <;> rfl
  have hlosses : sat8 x.lastLosses < 256 := by unfold sat8 saturate; omega
  have hjit : sat16 (x.jit / 16) < 65536 := by unfold sat16 saturate; omega
  have hage : saturate 63 x.rxAge < 64 := by unfold saturate; omega
  rw [← hcode, ← sat8_eq]
  unfold reportBackWord
  cases x.est with
  | none =>
    refine ⟨?_, ?_, ?_, fun _ h => (nomatch h), fun _ => ⟨?_, ?_⟩⟩
    · simp (disch := omega) only [extractLsb'_setField_of_disjoint, toNat_extractLsb'_setField]
    · simp (disch := omega) only [toNat_extractLsb'_setField]
    · simp (disch := omega) only [getLsbD_setField_of_outside]
      rfl
    · simp (disch := omega) only [extractLsb'_setField_of_disjoint]
      rfl
    · simp (disch := omega) only [extractLsb'_setField_of_disjoint]
      rfl
  | some e =>
    have hest : saturate (2 ^ 30 - 1) (e / 16) < 2 ^ 30 := by unfold saturate; omega
    refine ⟨?_, ?_, ?_, fun e' h => ?_, fun h => (nomatch h)⟩
    · simp (disch := omega) only [extractLsb'_setField_of_disjoint, toNat_extractLsb'_setField]
    · simp (disch := omega) only [extractLsb'_setField_of_disjoint, toNat_extractLsb'_setField]
    · simp (disch := omega) only [getLsbD_setField_of_outside]
      exact getLsbD_setField_bit _ (by decide) true
    · obtain rfl := Option.some.inj h
      refine ⟨?_, ?_, ?_⟩
      · simp (disch := omega) only [extractLsb'_setField_of_disjoint, toNat_extractLsb'_setField]
        exact Nat.min_comm ..
      · simp (disch := omega) only [extractLsb'_setField_of_disjoint, toNat_extractLsb'_setField]
        exact sat16_eq _
      · simp (disch := omega) only [toNat_extractLsb'_setField]
        exact Nat.min_comm ..

/-- What a read under departure processing adds to its path's counts (R72, R98). -/
theorem outcomeCounts_fields (c : PathCounts) (departure : Bool) (dwell : Option Nat) :
    outcomeCounts .blanked c = { c with blanked := min 4294967295 (c.blanked + 1) } ∧
      outcomeCounts .expired c = { c with expired := min 4294967295 (c.expired + 1) } ∧
      outcomeCounts (.passed departure dwell) c =
        { c with
          departures := if departure then min 4294967295 (c.departures + 1) else c.departures
          dwellSum := match dwell with | some n => min 18446744073709551615 (c.dwellSum + n) | none => c.dwellSum
          dwellCount := match dwell with | some _ => min 4294967295 (c.dwellCount + 1) | none => c.dwellCount
          dwellMax := match dwell with | some n => max c.dwellMax n | none => c.dwellMax } := by
  have sum (n : Nat) : saturate 18446744073709551615 n = min 18446744073709551615 n := Nat.min_comm ..
  refine ⟨?_, ?_, ?_⟩
  · rw [← sat32_eq]
    rfl
  · rw [← sat32_eq]
    rfl
  · unfold outcomeCounts
    simp only [sat32_eq, sum]
    cases departure <;> cases dwell <;> rfl

/-! ### Ring records and results -/

/-- A payload word holds two fields, the lower-numbered one low (R83). -/
theorem payloadWord_fields (fields : List (BitVec 32)) (k : Nat) :
    (payloadWord fields k).extractLsb' 0 32 = fields.getD (2 * k) 0 ∧
      (payloadWord fields k).extractLsb' 32 32 = fields.getD (2 * k + 1) 0 := by
  unfold payloadWord
  exact ⟨BitVec.extractLsb'_append_eq_right, BitVec.extractLsb'_append_eq_left⟩

/-- The header word of a ring record, field by field (R83). -/
theorem headerWord_fields (r : Report) (number : BitVec 16) {drops : Nat} (hdrops : drops ≤ 65535) :
    let h := headerWord r number drops
    (h.extractLsb' 0 8).toNat =
        (match r.kind with
         | .pathState => 1 | .routeChange => 2 | .timeEvent => 3 | .slotEvent => 4 | .routeResync => 5
         | .memoryError => 6 | .pathRxStats => 7 | .pathTxStats => 8 | .routeStats => 9) ∧
      h.getLsbD 8 = decide (0 < drops) ∧
      h.getLsbD 9 = (r.kind == .pathState || r.kind == .routeChange || r.kind == .timeEvent) ∧
      h.extractLsb' 10 6 = 0 ∧ h.extractLsb' 16 16 = number ∧ (h.extractLsb' 32 16).toNat = drops ∧
      h.extractLsb' 48 8 = r.source ∧ h.extractLsb' 56 8 = r.cause := by
  have hkind : r.kind.code < 256 := by cases r.kind <;> decide
  have hcode : r.kind.code =
      (match r.kind with
       | .pathState => 1 | .routeChange => 2 | .timeEvent => 3 | .slotEvent => 4 | .routeResync => 5
       | .memoryError => 6 | .pathRxStats => 7 | .pathTxStats => 8 | .routeStats => 9) := by cases r.kind <;> rfl
  have hurgent : r.kind.urgent = (r.kind == .pathState || r.kind == .routeChange || r.kind == .timeEvent) := by
    cases r.kind <;> rfl
  rw [← hcode, ← hurgent]
  unfold headerWord
  refine ⟨?_, ?_, ?_, ?_, ?_, ?_, ?_, ?_⟩
  · simp (disch := omega) only [extractLsb'_setField_of_disjoint, toNat_extractLsb'_setField]
  · simp (disch := omega) only [getLsbD_setField_of_outside]
    exact getLsbD_setField_bit _ (by decide) _
  · simp (disch := omega) only [getLsbD_setField_of_outside]
    exact getLsbD_setField_bit _ (by decide) _
  · simp (disch := omega) only [extractLsb'_setField_of_disjoint]
    rfl
  · simp (disch := omega) only [extractLsb'_setField_of_disjoint, extractLsb'_setField_self, BitVec.ofNat_toNat,
      BitVec.setWidth_eq]
  · simp (disch := omega) only [extractLsb'_setField_of_disjoint, toNat_extractLsb'_setField]
  · simp (disch := omega) only [extractLsb'_setField_of_disjoint, extractLsb'_setField_self, BitVec.ofNat_toNat,
      BitVec.setWidth_eq]
  · simp (disch := omega) only [extractLsb'_setField_self, BitVec.ofNat_toNat, BitVec.setWidth_eq]

/-- A result word, field by field (R82). -/
theorem resultWord_fields (label opcode : BitVec 8) (status : Status) {detail : Nat} (hdetail : detail ≤ 65535) :
    let w := resultWord label opcode status detail
    w.extractLsb' 0 8 = label ∧ w.extractLsb' 8 8 = opcode ∧
      (w.extractLsb' 16 8).toNat =
        (match status with
         | .done => 0 | .doneClamped => 1 | .badCommand => 2 | .badArgument => 3 | .locked => 4 | .busy => 5
         | .lineActive => 6) ∧
      (w.extractLsb' 24 16).toNat = detail ∧ w.extractLsb' 40 24 = 0 := by
  have hstatus : status.code < 256 := by cases status <;> decide
  unfold resultWord
  refine ⟨?_, ?_, ?_, ?_, ?_⟩
  · simp (disch := omega) only [extractLsb'_setField_of_disjoint, extractLsb'_setField_self, BitVec.ofNat_toNat,
      BitVec.setWidth_eq]
  · simp (disch := omega) only [extractLsb'_setField_of_disjoint, extractLsb'_setField_self, BitVec.ofNat_toNat,
      BitVec.setWidth_eq]
  · simp (disch := omega) only [extractLsb'_setField_of_disjoint, toNat_extractLsb'_setField]
    rfl
  · simp (disch := omega) only [toNat_extractLsb'_setField]
  · simp (disch := omega) only [extractLsb'_setField_of_disjoint]
    rfl

/-- The TIME_EVENT record of one cause (R53, R182). -/
theorem timeReport_eq (cause : TimeCause) (e : Int) (s : State) :
    s.timeReport cause e =
      ⟨.timeEvent, 0,
        (match cause with
         | .step => 1 | .locked => 2 | .unlocked => 3 | .holdover => 4 | .free => 5 | .stray => 6 | .rateClamp => 7),
        stampWord s.reading 0,
        [(match s.tb.ref with | .free => 0 | .acquiring => 1 | .locked => 2 | .holdover => 3), BitVec.ofInt 32 e,
         BitVec.ofInt 32 s.tb.rate, u32 s.tb.epoch.toNat, (if s.tb.overcapture then 1 else 0)]⟩ := by
  have href : u32 s.tb.ref.code = (match s.tb.ref with | .free => 0 | .acquiring => 1 | .locked => 2 | .holdover => 3) := by
    cases s.tb.ref <;> rfl
  have hover : u32 (bit s.tb.overcapture) = (if s.tb.overcapture then 1 else 0) := by cases s.tb.overcapture <;> rfl
  unfold State.timeReport makeReport
  rw [href, hover]
  cases cause <;> rfl

/-- Settles O19: the words field by field, each from `setField`'s two laws. -/
theorem slotWordFields : Obligations.SlotWordFields := by
  refine ⟨commitWord_fields, stampWord_fields, reading_eq, reportBackWord_fields, outcomeCounts_fields,
    fun r number drops hdrops => ⟨rfl, rfl, fun k hk => ?payload, headerWord r number drops, rfl, headerWord_fields r number hdrops⟩,
    fun label opcode status detail hdetail => resultWord_fields label opcode status hdetail,
    fun s e cause causes => ⟨rfl, ?events⟩⟩
  case payload =>
    refine ⟨payloadWord r.fields k, ?_, payloadWord_fields r.fields k⟩
    interval_cases k <;> rfl
  case events =>
    exact congrArg (fun rep => timeEvents causes e (submit rep (s.setTb { s.tb with overcapture := false })))
      (timeReport_eq cause e s)

end Sys2Proof.Machine

/-! ## Departure processing

How a read under departure processing ends, and the data it returns (R67 to R72). -/

namespace Sys2Proof.Machine

/-! ### Slot words -/

theorem slotWord_add (d : Departure) (ws : List Word) (i : Nat) : slotWord d ws (d.firstWord + i) = ws[i]? := by
  unfold slotWord
  rw [if_pos (Nat.le_add_right ..), Nat.add_sub_cancel_left]

theorem slotWord_below {d : Departure} (ws : List Word) {w : Nat} (h : w < d.firstWord) : slotWord d ws w = none :=
  if_neg (Nat.not_le.2 h)

/-- A slot word is read where the data cover it (R64). -/
theorem slotWord_eq_some_iff (d : Departure) (ws : List Word) (w : Nat) (v : Word) :
    slotWord d ws w = some v ↔ ∃ i, d.firstWord + i = w ∧ ws[i]? = some v := by
  constructor
  · intro h
    by_cases hw : d.firstWord ≤ w
    · obtain ⟨i, rfl⟩ := Nat.exists_eq_add_of_le hw
      exact ⟨i, rfl, (slotWord_add d ws i).symm.trans h⟩
    · rw [slotWord_below ws (Nat.not_le.1 hw)] at h
      exact nomatch h
  · rintro ⟨i, rfl, h⟩
    exact (slotWord_add d ws i).trans h

theorem slotWord_eq_none {d : Departure} {ws : List Word} {w : Nat} (h : ∀ i, d.firstWord + i = w → ws[i]? = none) :
    slotWord d ws w = none := by
  refine Option.eq_none_iff_forall_not_mem.2 fun v hv => ?_
  obtain ⟨i, hi, hws⟩ := (slotWord_eq_some_iff d ws w v).1 hv
  rw [h i hi] at hws
  exact nomatch hws

/-- A replaced slot word, where the data cover it (R70, R71). -/
theorem getElem?_putSlotWord (d : Departure) (w : Nat) (v : Word) (ws : List Word) (i : Nat) :
    (putSlotWord d w v ws)[i]? = if d.firstWord + i = w then ws[i]?.map (fun _ => v) else ws[i]? := by
  unfold putSlotWord
  by_cases hw : d.firstWord ≤ w
  · obtain ⟨j, rfl⟩ := Nat.exists_eq_add_of_le hw
    rw [if_pos hw, Nat.add_sub_cancel_left]
    by_cases hij : j = i
    · subst hij
      rw [if_pos rfl]
      exact List.getElem?_set_self'
    · rw [if_neg (by omega), List.getElem?_set_ne hij]
  · rw [if_neg hw, if_neg (by omega)]

/-! ### Outcomes -/

theorem departureOutcome_blanked_iff (d : Departure) (ws : List Word) :
    departureOutcome d ws = .blanked ↔ blankedForCut d ws = true := by
  unfold departureOutcome
  split
  · simp [*]
  · split <;> simp [*]

theorem departureOutcome_expired_iff (d : Departure) (ws : List Word) :
    departureOutcome d ws = .expired ↔ ¬blankedForCut d ws = true ∧ expiredRead d ws = true := by
  unfold departureOutcome
  split
  · simp [*]
  · split <;> simp [*]

/-- The dwell sample of a read that covers words 1 and 2 (R72). -/
def dwellSample (d : Departure) (ws : List Word) : Option Nat :=
  match slotWord d ws 2, waitOf d ws with
  | some _, some wait => some (clampInt 0 4294967295 wait).toNat
  | _, _ => none

/-- A read that is neither blanked nor expired counts a departure for word 2 and a dwell sample for words 1 and 2 (R72). -/
theorem departureOutcome_passed {d : Departure} {ws : List Word} (hb : departureOutcome d ws ≠ .blanked)
    (he : departureOutcome d ws ≠ .expired) :
    departureOutcome d ws = .passed (slotWord d ws 2).isSome (dwellSample d ws) := by
  have hb' := mt (departureOutcome_blanked_iff d ws).2 hb
  have he' : ¬expiredRead d ws = true := fun h => he ((departureOutcome_expired_iff d ws).2 ⟨hb', h⟩)
  unfold departureOutcome
  exact (if_neg hb').trans (if_neg he')

section
variable {d : Departure} (word : Word) (rest : List Word) (h0 : d.firstWord = 0)
include h0

theorem slotWord_zero : slotWord d (word :: rest) 0 = some word :=
  (slotWord_eq_some_iff ..).2 ⟨0, by omega, rfl⟩

theorem slotWord_one : slotWord d (word :: rest) 1 = rest[0]? := by
  have h := slotWord_add d (word :: rest) 1
  rw [h0] at h
  exact h

theorem blankedForCut_iff :
    blankedForCut d (word :: rest) = true ↔ d.health = .cut ∧ d.behaviour = .blank ∧ word.getLsbD 16 = true := by
  unfold blankedForCut commitReady
  rw [slotWord_zero word rest h0]
  simp [readyBit, and_assoc]

theorem expiredRead_iff :
    expiredRead d (word :: rest) = true ↔
      word.getLsbD 16 = true ∧ ∃ stamp, rest[0]? = some stamp ∧ (d.maxDwell : Int) < sinceStamp d.reading stamp := by
  unfold expiredRead commitReady waitOf
  rw [slotWord_zero word rest h0, slotWord_one word rest h0]
  cases rest[0]? <;> simp [readyBit]

/-- Only ready changes in the data of a blanked or expired read (R68, R69). -/
theorem departureData_stopped (h : departureOutcome d (word :: rest) = .blanked ∨ departureOutcome d (word :: rest) = .expired) :
    departureData d (word :: rest) = clearReady word :: rest := by
  have put : putSlotWord d 0 (clearReady word) (word :: rest) = clearReady word :: rest := by
    unfold putSlotWord
    rw [h0]
    rfl
  unfold departureData
  rcases h with h | h <;> rw [h] <;> dsimp only <;> rw [slotWord_zero word rest h0] <;> exact put

end

/-- A read that does not cover word 0 is never blanked or expired (R68, R69). -/
theorem departureOutcome_of_headless {d : Departure} (ws : List Word) (h : 1 ≤ d.firstWord) :
    departureOutcome d ws ≠ .blanked ∧ departureOutcome d ws ≠ .expired := by
  have unready : commitReady d ws = false := by
    unfold commitReady
    rw [slotWord_below ws h]
  rw [Ne, Ne, departureOutcome_blanked_iff, departureOutcome_expired_iff]
  simp [blankedForCut, expiredRead, unready]

/-- Every other read returns its departure stamp and its report-back word where it covers them (R70, R71). -/
theorem getElem?_departureData {d : Departure} {ws : List Word} (hb : departureOutcome d ws ≠ .blanked)
    (he : departureOutcome d ws ≠ .expired) (i : Nat) :
    (departureData d ws)[i]? =
      if d.firstWord + i = 2 then ws[i]?.map (fun _ => departureStamp d)
      else if d.firstWord + i = 3 then ws[i]?.map (fun _ => d.reportBack)
      else ws[i]? := by
  unfold departureData
  rw [departureOutcome_passed hb he]
  dsimp only
  rw [getElem?_putSlotWord, getElem?_putSlotWord]
  by_cases h2 : d.firstWord + i = 2
  · rw [if_pos h2, if_pos h2, if_neg (by omega)]
  · rw [if_neg h2, if_neg h2]

/-- Settles O23: the two ways a read is stopped, and the words of one that is not. -/
theorem departureProcessingOfTheData : Obligations.DepartureProcessingOfTheData := by
  refine ⟨fun d word rest h0 => ⟨?blanked, ?expired, fun h => ?stopped⟩, fun d ws h => departureOutcome_of_headless ws h,
    fun d ws hb he => ⟨fun i => ?words, fun departure dwell h => ?counted⟩⟩
  case blanked => rw [departureOutcome_blanked_iff, blankedForCut_iff word rest h0]
  case expired => rw [departureOutcome_expired_iff, blankedForCut_iff word rest h0, expiredRead_iff word rest h0]
  case stopped =>
    refine ⟨clearReady word, departureData_stopped word rest h0 ?_, fun i hi => getLsbD_clearReady word hi⟩
    rw [departureOutcome_blanked_iff, departureOutcome_expired_iff, blankedForCut_iff word rest h0,
      expiredRead_iff word rest h0]
    by_cases hb : d.health = .cut ∧ d.behaviour = .blank ∧ word.getLsbD 16 = true
    · exact .inl hb
    · exact .inr ⟨hb, h.resolve_left hb⟩
  case words => exact getElem?_departureData hb he i
  case counted =>
    rw [departureOutcome_passed hb he] at h
    obtain ⟨rfl, rfl⟩ := Outcome.passed.inj h
    refine ⟨?_, fun i j v2 v1 hi h2 hj h1 => ?_, fun hmissing => ?_⟩
    · rw [Option.isSome_iff_exists]
      simp only [slotWord_eq_some_iff]
      exact exists_comm
    · have word2 := (slotWord_eq_some_iff d ws 2 v2).2 ⟨i, hi, h2⟩
      have word1 := (slotWord_eq_some_iff d ws 1 v1).2 ⟨j, hj, h1⟩
      unfold dwellSample waitOf
      rw [word2, word1]
      rfl
    · rcases hmissing with h1 | h2
      · unfold dwellSample waitOf
        rw [slotWord_eq_none h1]
        cases slotWord d ws 2 <;> rfl
      · unfold dwellSample
        rw [slotWord_eq_none h2]

end Sys2Proof.Machine

/-! ## Header writes of a receive window

The words a modem writes ahead of its receive commit wait in the path's pending-arrival list (R73, R74). -/

namespace Sys2Proof.Machine

theorem exec_arrivalHeaderWrite (w : WriteReq) (s : State) :
    exec (.arrivalHeaderWrite w) s = .next (presentWrite w s.quiet) := rfl

/-- A write that is no receive commit places the words it covers (R74). -/
theorem arrivalWrite_of_not_isCommit {s : State} {win : Window} {offset : Nat} {beats : List Beat} (tag : Tag) (acks : Bool)
    (h : isCommit (s.slotOffset offset) beats = false) :
    arrivalWrite win offset tag beats acks s =
      offerWrites tag acks false [s.translated win offset tag beats]
        (placeArrival win.path (s.slotOf offset) (coveredWord (s.slotOffset offset) beats 2)
          (coveredWord (s.slotOffset offset) beats 3) s) := by
  unfold isCommit at h
  unfold arrivalWrite
  dsimp only
  split
  next word hword =>
    have hready : readyBit word = false := by simpa only [hword] using h
    simp [hready]
  next => rfl

theorem placeArrival_none (p : Path) (slot : Nat) (s : State) : placeArrival p slot none none s = s := by
  unfold placeArrival
  exact if_pos ⟨rfl, rfl⟩

section
variable {p : Path} {slot : Nat} {w2 w3 : Option Word} {s : State} (h : w2.isSome ∨ w3.isSome)
include h

theorem not_both_none : ¬(w2.isNone ∧ w3.isNone) := by
  rintro ⟨h2, h3⟩
  rcases h with h | h
  · simp [Option.isNone_iff_eq_none.1 h2] at h
  · simp [Option.isNone_iff_eq_none.1 h3] at h

/-- A slot with a record keeps it, with the words the write covers (R74). -/
theorem placeArrival_held (hany : s.arrivals[p].any (fun a => a.slot == slot) = true) :
    placeArrival p slot w2 w3 s =
      s.setArrivals p
        (s.arrivals[p].map (fun a => if a.slot = slot then ⟨slot, w2.or a.word2, w3.or a.word3⟩ else a)) := by
  unfold placeArrival
  dsimp only
  rw [if_neg (not_both_none h), if_pos hany]
  congr 2
  funext a
  by_cases ha : a.slot = slot
  · rw [if_pos ha, if_pos ha, ← ha]
    rfl
  · rw [if_neg ha, if_neg ha]

/-- A slot without a record gets one, where the list has room (R74). -/
theorem placeArrival_room (hany : s.arrivals[p].any (fun a => a.slot == slot) = false) (hroom : s.arrivals[p].length < 4) :
    placeArrival p slot w2 w3 s = s.setArrivals p (s.arrivals[p] ++ [⟨slot, w2, w3⟩]) := by
  unfold placeArrival
  dsimp only
  rw [if_neg (not_both_none h), if_neg (Bool.eq_false_iff.1 hany)]
  exact if_pos hroom

/-- A full list loses its oldest record, which is counted (R74). -/
theorem placeArrival_full {o : PendingArrival} {rest : List PendingArrival}
    (hany : s.arrivals[p].any (fun a => a.slot == slot) = false) (hlist : s.arrivals[p] = o :: rest)
    (hfull : rest.length = 3) :
    placeArrival p slot w2 w3 s =
      { s.setArrivals p (rest ++ [⟨slot, w2, w3⟩]) with
        overflows := s.overflows.set p (min 65535 (s.overflows[p] + 1)) p.isLt } := by
  have full : ¬s.arrivals[p].length < Config.slotRecords := by
    rw [hlist, List.length_cons, hfull]
    decide
  unfold placeArrival
  dsimp only
  rw [if_neg (not_both_none h), if_neg (Bool.eq_false_iff.1 hany), if_neg full, hlist, sat16_eq]
  rfl

end

/-- The pending-arrival lists have nothing to do with the pins or the port. -/
theorem placeArrival_withPort (p : Path) (slot : Nat) (w2 w3 : Option Word) (s : State) (bus : List BusOut)
    (qs : List PortRequest) :
    placeArrival p slot w2 w3 (s.withPort bus qs) = (placeArrival p slot w2 w3 s).withPort bus qs := by
  unfold placeArrival
  have same : (s.withPort bus qs).arrivals = s.arrivals := rfl
  dsimp only
  rw [same]
  split
  · rfl
  · split
    · rfl
    · split <;> rfl

/-- A header write at a free port (R73, R74). -/
theorem presentWrite_header {s : State} {w : WriteReq} {win : Window} {offset : Nat}
    (hw : s.writeTo w .modem .pathRx win offset) (hpath : s.agents[w.tag].path = win.path)
    (h : isCommit (s.slotOffset offset) w.beats = false) :
    presentWrite w s.quiet =
      (placeArrival win.path (s.slotOf offset) (coveredWord (s.slotOffset offset) w.beats 2)
        (coveredWord (s.slotOffset offset) w.beats 3) s).offered w.tag false
        [⟨(s.paths[win.path].set.rxBase &&& ~~~63) + BitVec.ofNat 32 offset, w.beats.map (swapBeat win.swap),
          .agent w.tag⟩] := by
  obtain ⟨hfree, hblock, hrole, hkind, hwin⟩ := hw
  have haccept := acceptWrite_pathRx_modem (s := s.withPort [] [.write w true]) true hrole hpath hkind hwin
  have hplaced := arrivalWrite_of_not_isCommit (s := s.withPort [] [.write w true]) (win := win) (offset := offset)
    (beats := w.beats) w.tag true h
  have waiting : (placeArrival win.path (s.slotOf offset) (coveredWord (s.slotOffset offset) w.beats 2)
      (coveredWord (s.slotOffset offset) w.beats 3) s).portWaiting = [] := by
    rw [(placeArrival_only ..).portWaiting]
    exact hfree.2
  have base : blockBase s.paths[win.path].set.rxBase = s.windowBase win := (windowBase_pathRx hkind).symm
  rw [presentWrite_free w s hfree hblock]
  refine (congrArg (State.setWaiting · []) (haccept.trans hplaced)).trans ?_
  rw [placeArrival_withPort]
  refine (offerWrites_withPort waiting ..).trans ?_
  rw [← blockBase, base]
  rfl

/-- Settles O24: nothing covered, a record for the slot, a new one, or a new one in the place of the oldest. -/
theorem headerWritesFillThePendingArrivals : Obligations.HeaderWritesFillThePendingArrivals := by
  intro s w win offset hw hpath h
  have left := presentWrite_header hw hpath h
  rw [exec_arrivalHeaderWrite, left]
  refine ⟨fun h2 h3 => ?nothing, fun hcovers => ⟨fun hany => ?held, fun hany hroom => ?room,
    fun o rest hany hlist hfull => ?full⟩⟩
  case nothing =>
    have placed : placeArrival win.path (s.slotOf offset) (coveredWord (s.slotOffset offset) w.beats 2)
        (coveredWord (s.slotOffset offset) w.beats 3) s = s :=
      (congrArg₂ (fun a b => placeArrival win.path (s.slotOf offset) a b s) h2 h3).trans (placeArrival_none ..)
    rw [placed]
  case held => exact congrArg (fun t : State => Host.Outcome.next (t.offered ..)) (placeArrival_held hcovers hany)
  case room => exact congrArg (fun t : State => Host.Outcome.next (t.offered ..)) (placeArrival_room hcovers hany hroom)
  case full => exact congrArg (fun t : State => Host.Outcome.next (t.offered ..)) (placeArrival_full hcovers hany hlist hfull)

end Sys2Proof.Machine

/-! ## The two deliveries of a receive commit

What they leave in the mergers, the path's period counts and the write list, whichever of them is made first (R75 to R78,
R150, R151, log 8). -/

namespace Sys2Proof.Machine

/-! ### The reports of the Path Monitor's delivery -/

/-- Whether an item of the write list is a ROUTE_RESYNC record. -/
def ListItem.isResync : ListItem → Bool
  | .record r => r.kind == .routeResync
  | .status => false

/-- From `s` to `t` at most `n` records joined the write list, none of them ROUTE_RESYNC, and no mask moved. -/
structure LogsOthers (n : Nat) (s t : State) : Prop where
  resyncs : t.writeList.filter ListItem.isResync = s.writeList.filter ListItem.isResync
  records : (t.writeList.filter ListItem.isRecord).length ≤ (s.writeList.filter ListItem.isRecord).length + n
  masks : ∀ k : RingId, t.rings[k].mask = s.rings[k].mask

theorem LogsOthers.of_same {s t : State} (hlist : t.writeList = s.writeList) (hrings : t.rings = s.rings) (n : Nat) :
    LogsOthers n s t := by
  refine ⟨by rw [hlist], ?_, fun k => by rw [hrings]⟩
  rw [hlist]
  exact Nat.le_add_right ..

theorem setRouteRec_logsOthers (s : State) (r : Route) (x : RouteRecord) : LogsOthers 0 s (s.setRouteRec r x) :=
  .of_same (s := s) (t := s.setRouteRec r x) rfl rfl 0

theorem setPathRec_logsOthers (s : State) (p : Path) (x : PathRecord) : LogsOthers 0 s (s.setPathRec p x) :=
  .of_same (s := s) (t := s.setPathRec p x) rfl rfl 0

theorem LogsOthers.trans {n m : Nat} {s t u : State} (h : LogsOthers n s t) (k : LogsOthers m t u) :
    LogsOthers (n + m) s u where
  resyncs := k.resyncs.trans h.resyncs
  records := by
    have hrec := h.records
    have krec := k.records
    omega
  masks x := (k.masks x).trans (h.masks x)

theorem LogsOthers.foldl {α : Type} {f : State → α → State} (h : ∀ s a, LogsOthers 1 s (f s a)) (xs : List α) (s : State) :
    LogsOthers xs.length s (xs.foldl f s) := by
  induction xs generalizing s with
  | nil => exact .of_same rfl rfl 0
  | cons a as ih =>
    rw [List.length_cons, Nat.add_comm]
    exact (h s a).trans (ih (f s a))

/-- A set ring keeps the masks where it keeps its own. -/
theorem masks_set (rings : Vector Ring 2) (j : RingId) {x : Ring} (h : x.mask = rings[j].mask) (k : RingId) :
    (rings.set j x)[k].mask = rings[k].mask := by
  by_cases hjk : j.val = k.val
  · obtain rfl := Fin.ext hjk
    simpa using h
  · simp [Vector.getElem_set_ne, hjk]

theorem dropCounted_masks (rings : Vector Ring 2) (j k : RingId) : (dropCounted rings j)[k].mask = rings[k].mask := by
  unfold dropCounted
  split
  · refine masks_set rings j ?_ k
    rfl
  · rfl

/-- The rings after a drop: counted, and ring 0's flag set by an urgent one (R178, R180). -/
theorem dropped_rings (s : State) (r : Report) :
    (s.dropped r).rings =
      if r.kind.urgent = true ∧ s.rings[(0 : Fin 2)].pending = false then
        (dropCounted s.rings r.kind.ring).set 0 { (dropCounted s.rings r.kind.ring)[(0 : Fin 2)] with pending := true }
      else dropCounted s.rings r.kind.ring := by
  unfold State.dropped
  dsimp only
  split <;> rfl

/-- A drop moves no mask (R178). -/
theorem dropped_masks (s : State) (r : Report) (k : RingId) : (s.dropped r).rings[k].mask = s.rings[k].mask := by
  rw [dropped_rings]
  generalize hrings : dropCounted s.rings r.kind.ring = rings
  have counted : rings[k].mask = s.rings[k].mask := hrings ▸ dropCounted_masks ..
  split
  · refine (masks_set rings 0 ?_ k).trans counted
    rfl
  · exact counted

/-- A drop lists no record (R178, R180). -/
theorem dropped_writeList (s : State) (r : Report) :
    (s.dropped r).writeList = s.writeList ∨ (s.dropped r).writeList = s.writeList ++ [.status] := by
  unfold State.dropped
  dsimp only
  split
  · dsimp only
    split
    exacts [.inl rfl, .inr rfl]
  · exact .inl rfl

theorem submit_logsOthers {r : Report} (h : r.kind ≠ .routeResync) (s : State) : LogsOthers 1 s (submit r s) := by
  have other : ListItem.isResync (.record r) = false := by simpa [ListItem.isResync] using h
  rw [submit_eq]
  split
  · exact .of_same rfl rfl 1
  · split
    · refine ⟨?_, ?_, fun k => rfl⟩
      · simp [List.filter_append, other]
      · rw [List.filter_append, List.length_append]
        exact Nat.add_le_add_left (List.length_filter_le ..) _
    · refine ⟨?_, ?_, dropped_masks s r⟩
      all_goals
        rcases dropped_writeList s r with hlist | hlist <;> rw [hlist]
      all_goals simp [List.filter_append, ListItem.isResync, ListItem.isRecord]

theorem choose_logsOthers (r : Route) (cause : RouteCause) (q : Option Path) (c : Choice) (s : State) :
    LogsOthers 1 s (choose r cause q c s) := by
  unfold choose
  dsimp only
  split
  · exact .of_same rfl rfl 1
  · generalize hu : s.setRouteRec r _ = u
    have stored : LogsOthers 0 s u := hu ▸ setRouteRec_logsOthers ..
    exact stored.trans (submit_logsOthers (nofun : ReportKind.routeChange ≠ .routeResync) _)

theorem reselectRoute_logsOthers (q : Path) (old new : Health) (r : Route) (s : State) :
    LogsOthers 1 s (reselectRoute q old new r s) := by
  unfold reselectRoute
  split
  · split
    exacts [choose_logsOthers .., .of_same rfl rfl 1]
  · exact .of_same rfl rfl 1

theorem reselect_logsOthers (q : Path) (old new : Health) (s : State) : LogsOthers 4 s (reselect q old new s) := by
  have routes := LogsOthers.foldl (fun s r => reselectRoute_logsOthers q old new r s) allRoutes s
  exact routes

/-- A change of state makes its own record, and at most one for each route (R116, R126). -/
theorem enterState_logsOthers (p : Path) (new : Health) (cause : PathCause) (s : State) :
    LogsOthers 5 s (enterState p new cause s) := by
  unfold enterState
  dsimp only
  generalize hu : s.setPathRec p _ = u
  have stored : LogsOthers 0 s u := hu ▸ setPathRec_logsOthers ..
  have reported := submit_logsOthers (r := u.pathState p cause s.paths[p].state)
    (nofun : ReportKind.pathState ≠ .routeResync) u
  exact (stored.trans reported).trans (reselect_logsOthers ..)

theorem enterIf_logsOthers (p : Path) (change : Option (Health × PathCause)) (s : State) :
    LogsOthers 5 s (enterIf p change s) := by
  unfold enterIf
  split
  exacts [enterState_logsOthers .., .of_same rfl rfl 5]

/-- The delivery to the Path Monitor makes at most the reports of one change of state (R77, R111). -/
theorem deliverMonitor_logsOthers (k : ArrivalCommit) (s : State) : LogsOthers 5 s (deliverMonitor k s) := by
  have sample (s : State) : LogsOthers 0 s (deliverSample k.path k.word2 k.reading s) := setPathRec_logsOthers ..
  have back (s : State) : LogsOthers 5 s (deliverReportBack k.path k.word3 s) := by
    unfold deliverReportBack
    split
    · unfold takeFarEnd
      exact ((setPathRec_logsOthers ..).trans (setPathRec_logsOthers ..)).trans (enterIf_logsOthers ..)
    · exact .of_same rfl rfl 5
  have sequence (s : State) : LogsOthers 0 s (deliverSequence k.path (commitPathSeq k.commit) s) :=
    setPathRec_logsOthers ..
  unfold deliverMonitor
  exact ((sample s).trans (back _)).trans (sequence _)

/-! ### The delivery to the Arrival Merger -/

/-- The bounds of R148, in the words of the record alone. -/
theorem isResync_iff (m : MergeRecord) (seq : BitVec 24) :
    m.isResync seq = true ↔
      m.tracking = true ∧ (seq - m.newest).toInt ≤ -64 ∧ m.resyncCount ≤ min 255 (m.staleRun + 1) := by
  unfold MergeRecord.isResync MergeRecord.resyncs? distance
  rw [sat8_eq]
  simp [and_assoc]

/-- A resync starts a new window at its sequence and counts itself (R148). -/
theorem take_of_resync {m : MergeRecord} {seq : BitVec 24} (h : m.isResync seq = true) (rd : Reading) (p : Path) :
    (m.take seq rd p).1.newest = seq ∧ (m.take seq rd p).1.resyncCount = m.resyncCount ∧
      (m.take seq rd p).1.stale = min 4294967295 (m.stale + 1) := by
  unfold MergeRecord.isResync at h
  rw [Bool.and_eq_true, Bool.and_eq_true, decide_eq_true_eq] at h
  obtain ⟨⟨htracking, hfar⟩, hresyncs⟩ := h
  unfold MergeRecord.take
  rw [if_neg (by simp [htracking]), if_neg (by omega), if_neg (by omega)]
  unfold MergeRecord.behind
  dsimp only
  rw [if_pos hresyncs, ← sat32_eq]
  exact ⟨rfl, rfl, rfl⟩

/-- The ROUTE_RESYNC record of a resync (R151, R182). -/
theorem resyncReport_of_resync {m : MergeRecord} {seq : BitVec 24} (h : m.isResync seq = true) (r : Route) (p : Path)
    (rd : Reading) :
    resyncReport r m (m.take seq rd p).1 p rd =
      ⟨.routeResync, BitVec.ofNat 8 r.val, 1, stampWord rd p.val,
        [u32 m.newest.toNat, u32 seq.toNat, u32 p.val, u32 m.resyncCount, u32 (min 4294967295 (m.stale + 1))]⟩ := by
  obtain ⟨hnewest, hcount, hstale⟩ := take_of_resync h rd p
  unfold resyncReport
  rw [hnewest, hcount, hstale]
  rfl

/-- Without a resync the delivery makes no report (R151). -/
theorem deliverMerger_writeList_of_not_resync {r : Route} {seq : BitVec 24} {s : State}
    (h : s.mergers[r].isResync seq = false) (p : Path) (rd : Reading) :
    (deliverMerger r seq p rd s).writeList = s.writeList := by
  unfold deliverMerger
  dsimp only
  rw [h]
  rfl

/-- A resync is listed where its ring masks it not and there is room (R151, R176). -/
theorem deliverMerger_writeList_of_resync {r : Route} {seq : BitVec 24} {s : State}
    (h : s.mergers[r].isResync seq = true) (p : Path) (rd : Reading) (hmask : s.rings[(0 : Fin 2)].mask.getLsbD 5 = false)
    (hroom : (s.writeList.filter ListItem.isRecord).length < 8) :
    (deliverMerger r seq p rd s).writeList =
      s.writeList ++ [.record (resyncReport r s.mergers[r] (s.mergers[r].take seq rd p).1 p rd)] := by
  unfold deliverMerger
  dsimp only
  rw [if_pos h, submit_eq]
  refine (congrArg State.writeList (if_neg (Bool.eq_false_iff.1 hmask))).trans ?_
  exact congrArg State.writeList (if_pos hroom)

/-! ### Both deliveries -/

/-- The Path Monitor's delivery touches no other path. -/
theorem deliverMonitor_other {k : ArrivalCommit} {x : Path} (h : x ≠ k.path) (s : State) :
    (deliverMonitor k s).paths[x] = s.paths[x] := by
  have other (t : State) (y : PathRecord) : (t.setPathRec k.path y).paths[x] = t.paths[x] := by
    rw [setPathRec_get, if_neg (Ne.symm h)]
  have back (t : State) : (deliverReportBack k.path k.word3 t).paths[x] = t.paths[x] := by
    unfold deliverReportBack
    split
    · unfold takeFarEnd
      rw [enterIf_paths]
      refine (other _ _).trans ((other _ _).trans (other _ _))
    · rfl
  unfold deliverMonitor deliverSequence
  rw [other, back]
  exact other _ _

/-- Handing a path its share and the Path Monitor's delivery do not meet in its record (R77, R78, log 8). -/
theorem handedCounts_comm (h : Handed) (x : PathRecord) (a : SamplePart) (b : ReportBackPart) (c : SequencePart) :
    { ((x.withSample a).withReportBack b).withSequence c with
      period := handedCounts h (((x.withSample a).withReportBack b).withSequence c).period } =
      ((({ x with period := handedCounts h x.period } : PathRecord).withSample a).withReportBack b).withSequence c := by
  cases h <;> rfl

/-- The path's record after both deliveries, whichever came first. -/
theorem deliverBoth_path (monitorFirst : Bool) (k : ArrivalCommit) (s : State) :
    ∃ (a : SamplePart) (b : ReportBackPart) (c : SequencePart),
      (deliverBoth monitorFirst k s).paths[k.path] =
        ((({ s.paths[k.path] with
          period := handedCounts (s.mergers[commitRoute k.commit].take (commitRouteSeq k.commit) k.reading k.path).2
            s.paths[k.path].period } : PathRecord).withSample a).withReportBack b).withSequence c := by
  have merged (t : State) : (deliverArrival k t).paths[k.path] =
      { t.paths[k.path] with
        period := handedCounts (t.mergers[commitRoute k.commit].take (commitRouteSeq k.commit) k.reading k.path).2
          t.paths[k.path].period } := by
    unfold deliverArrival
    simp only [deliverMerger_paths]
    simp
  unfold deliverBoth
  cases monitorFirst with
  | true =>
    obtain ⟨a, b, c, hmonitor, -⟩ := deliverMonitor_moves k s
    refine ⟨a, b, c, (merged _).trans ?_⟩
    rw [hmonitor, (deliverMonitor_only k s).mergers]
    exact handedCounts_comm ..
  | false =>
    obtain ⟨a, b, c, hmonitor, -⟩ := deliverMonitor_moves k (deliverArrival k s)
    exact ⟨a, b, c, hmonitor.trans (by rw [merged])⟩

theorem deliverBoth_other (monitorFirst : Bool) {k : ArrivalCommit} {x : Path} (h : x ≠ k.path) (s : State) :
    (deliverBoth monitorFirst k s).paths[x] = s.paths[x] := by
  have merged (t : State) : (deliverArrival k t).paths[x] = t.paths[x] := by
    have hval : k.path.val ≠ x.val := fun e => h (Fin.ext e).symm
    unfold deliverArrival
    simp only [deliverMerger_paths]
    simp [Vector.getElem_set_ne, hval]
  unfold deliverBoth
  cases monitorFirst with
  | true => exact (merged _).trans (deliverMonitor_other h s)
  | false => exact (deliverMonitor_other h _).trans (merged s)

theorem deliverBoth_mergers (monitorFirst : Bool) (k : ArrivalCommit) (s : State) :
    (deliverBoth monitorFirst k s).mergers = s.mergers.set (commitRoute k.commit)
      (s.mergers[commitRoute k.commit].take (commitRouteSeq k.commit) k.reading k.path).1 (commitRoute k.commit).isLt := by
  unfold deliverBoth
  cases monitorFirst with
  | true =>
    refine (deliverMerger_mergers ..).trans ?_
    rw [(deliverMonitor_only k s).mergers]
  | false => exact (deliverMonitor_only k _).mergers.trans (deliverMerger_mergers ..)

/-- The ROUTE_RESYNC records of the write list after both deliveries, without a resync (R151). -/
theorem deliverBoth_resyncs_of_not_resync (monitorFirst : Bool) {k : ArrivalCommit} {s : State}
    (h : s.mergers[commitRoute k.commit].isResync (commitRouteSeq k.commit) = false) :
    (deliverBoth monitorFirst k s).writeList.filter ListItem.isResync = s.writeList.filter ListItem.isResync := by
  unfold deliverBoth
  cases monitorFirst with
  | true =>
    have h' : (deliverMonitor k s).mergers[commitRoute k.commit].isResync (commitRouteSeq k.commit) = false := by
      rw [(deliverMonitor_only k s).mergers, h]
    have list := deliverMerger_writeList_of_not_resync h' k.path k.reading
    exact (congrArg (List.filter ListItem.isResync) list).trans (deliverMonitor_logsOthers k s).resyncs
  | false =>
    have list := deliverMerger_writeList_of_not_resync h k.path k.reading
    exact (deliverMonitor_logsOthers k _).resyncs.trans (congrArg (List.filter ListItem.isResync) list)

/-- And with one: its record joins them (R151). -/
theorem deliverBoth_resyncs_of_resync (monitorFirst : Bool) {k : ArrivalCommit} {s : State}
    (h : s.mergers[commitRoute k.commit].isResync (commitRouteSeq k.commit) = true)
    (hmask : s.rings[(0 : Fin 2)].mask.getLsbD 5 = false) (hroom : (s.writeList.filter ListItem.isRecord).length ≤ 2) :
    (deliverBoth monitorFirst k s).writeList.filter ListItem.isResync =
      s.writeList.filter ListItem.isResync ++
        [.record (resyncReport (commitRoute k.commit) s.mergers[commitRoute k.commit]
          (s.mergers[commitRoute k.commit].take (commitRouteSeq k.commit) k.reading k.path).1 k.path k.reading)] := by
  unfold deliverBoth
  cases monitorFirst with
  | true =>
    have logs := deliverMonitor_logsOthers k s
    have mergers : (deliverMonitor k s).mergers = s.mergers := (deliverMonitor_only k s).mergers
    have records := logs.records
    have list := deliverMerger_writeList_of_resync (s := deliverMonitor k s) (mergers ▸ h) k.path k.reading
      ((congrArg (BitVec.getLsbD · 5) (logs.masks 0)).trans hmask) (by omega)
    refine (congrArg (List.filter ListItem.isResync) list).trans ?_
    rw [List.filter_append, logs.resyncs, mergers]
    rfl
  | false =>
    have list := deliverMerger_writeList_of_resync h k.path k.reading hmask (by omega)
    refine (deliverMonitor_logsOthers k _).resyncs.trans ((congrArg (List.filter ListItem.isResync) list).trans ?_)
    rw [List.filter_append]
    rfl

/-! ### The way to both deliveries -/

/-- The state in which a receive commit makes its deliveries: its pending record removed, a free choice taken (R76, log 8). -/
def State.receiving (s : State) (p : Path) (slot : Nat) (qs : List PortRequest) : State :=
  { s with
    bus := [], portWaiting := qs, choice := s.choice + 1
    arrivals := s.arrivals.set p (s.arrivals[p].filter (fun a => a.slot != slot)) }

/-- A receive commit at a free port: its two deliveries, then its offer (R75 to R78). -/
theorem presentWrite_receive {s : State} {w : WriteReq} {p : Path} {win : Window} {offset : Nat} {word : Word}
    (h : s.receives w p win offset word) :
    presentWrite w s.quiet =
      (offerWrites w.tag true false
        (s.commitWrites win offset w.tag w.beats (s.gather p (s.slotOf offset) (s.slotOffset offset) word w.beats))
        (deliverBoth (Config.monitorFirst s.choice) (s.gather p (s.slotOf offset) (s.slotOffset offset) word w.beats)
          (s.receiving p (s.slotOf offset) [.write w true]))).setWaiting s.portWaiting := by
  obtain ⟨⟨hfree, hblock, hrole, hkind, hwin⟩, rfl, hpath, hword, hready⟩ := h
  have haccept := acceptWrite_pathRx_modem (s := s.quiet.setWaiting [.write w true]) true hrole hpath hkind hwin
  have harrival := arrivalWrite_ready (s := s.quiet.setWaiting [.write w true]) (win := win) w.tag true hword hready
  rw [presentWrite_free w s hfree hblock, haccept, harrival, hfree.2]
  rfl

/-- The dup bit is clear for a delivery that wins alone (R141). -/
theorem bit_dup (h : Handed) : bit h.dup = if h = .win then 0 else 1 := by
  cases h <;> simp [Handed.dup, bit]

/-- The two writes of a receive commit (R75, R78). -/
theorem commitWrites_eq {s : State} {win : Window} (hk : win.kind = .pathRx) (offset : Nat) (tag : Tag) (beats : List Beat)
    (word : Word) :
    let off := offset % s.layout.slot
    let slot := offset / s.layout.slot
    let taken := s.mergers[commitRoute word].take (commitRouteSeq word) s.reading win.path
    let base := s.paths[win.path].set.rxBase &&& ~~~63
    let stamp := stampWord s.reading win.path.val
    s.commitWrites win offset tag beats (s.gather win.path (s.slotOf offset) (s.slotOffset offset) word beats) =
      [⟨base + BitVec.ofNat 32 (slot * s.layout.slot + 32), [swapBeat win.swap ⟨stamp, 0xFF⟩], .agent tag⟩,
       ⟨base + BitVec.ofNat 32 offset,
        (replaceWord off (replaceWord off beats 0 (setField word 17 1 (if taken.2 = .win then 0 else 1))) 4 stamp).map
          (swapBeat win.swap), .agent tag⟩] := by
  dsimp only
  rw [← bit_dup, ← blockBase, ← windowBase_pathRx (s := s) hk]
  rfl

theorem handedCounts_wins {h : Handed} (hlost : h ≠ .win) (c : PathCounts) : (handedCounts h c).wins = c.wins := by
  cases h with
  | win => exact absurd rfl hlost
  | late margin => rfl
  | nothing => rfl

theorem handedCounts_late {h : Handed} (hearly : ∀ margin, h ≠ .late margin) (c : PathCounts) :
    (handedCounts h c).lateCopies = c.lateCopies ∧ (handedCounts h c).marginSum = c.marginSum := by
  cases h with
  | win => exact ⟨rfl, rfl⟩
  | late margin => exact absurd rfl (hearly margin)
  | nothing => exact ⟨rfl, rfl⟩

/-- Settles O25: the offer is made of the state before; each delivery's part is read off by itself. -/
theorem receiveCommitsAreStampedAndMerged : Obligations.ReceiveCommitsAreStampedAndMerged := by
  intro s w p win offset word h
  obtain ⟨⟨hfree, -, -, hkind, -⟩, rfl, -⟩ := id h
  have only := deliverBoth_only (Config.monitorFirst s.choice)
    (s.gather win.path (s.slotOf offset) (s.slotOffset offset) word w.beats)
    (s.receiving win.path (s.slotOf offset) [.write w true])
  obtain ⟨a, b, c, hpath⟩ := deliverBoth_path (Config.monitorFirst s.choice)
    (s.gather win.path (s.slotOf offset) (s.slotOffset offset) word w.beats)
    (s.receiving win.path (s.slotOf offset) [.write w true])
  have hmergers := deliverBoth_mergers (Config.monitorFirst s.choice)
    (s.gather win.path (s.slotOf offset) (s.slotOffset offset) word w.beats)
    (s.receiving win.path (s.slotOf offset) [.write w true])
  rw [exec_receiveCommit, presentWrite_receive h]
  refine ⟨_, rfl, ?offers, hmergers, only.arrivals,
    fun x hx => deliverBoth_other (Config.monitorFirst s.choice) hx _, fun hwin => ?win, fun hlost => ?lost,
    fun margin hlate => ?late, fun hearly => ?early, fun hno => ?silent, fun hresync hmask hroom => ?resync, ?frame⟩
  case offers =>
    exact congrArg₂ (fun offers ws => offers ++ [agentOffer w.tag false ws]) only.offers (commitWrites_eq hkind ..)
  case win =>
    refine (congrArg (fun y => y.period.wins) hpath).trans ?_
    refine (congrArg (fun h => (handedCounts h s.paths[win.path].period).wins) hwin).trans (sat32_eq _)
  case lost =>
    refine (congrArg (fun y => y.period.wins) hpath).trans ?_
    exact handedCounts_wins hlost _
  case late =>
    refine ⟨(congrArg (fun y => y.period.lateCopies) hpath).trans ?_, (congrArg (fun y => y.period.marginSum) hpath).trans ?_⟩
    · exact (congrArg (fun h => (handedCounts h s.paths[win.path].period).lateCopies) hlate).trans (sat32_eq _)
    · exact congrArg (fun h => (handedCounts h s.paths[win.path].period).marginSum) hlate
  case early =>
    have same := handedCounts_late hearly s.paths[win.path].period
    exact ⟨(congrArg (fun y => y.period.lateCopies) hpath).trans same.1,
      (congrArg (fun y => y.period.marginSum) hpath).trans same.2⟩
  case silent =>
    exact deliverBoth_resyncs_of_not_resync (Config.monitorFirst s.choice)
      (s := s.receiving win.path (s.slotOf offset) [.write w true])
      (Bool.eq_false_iff.2 (mt (isResync_iff ..).1 hno))
  case resync =>
    have listed := deliverBoth_resyncs_of_resync (Config.monitorFirst s.choice)
      (k := s.gather win.path (s.slotOf offset) (s.slotOffset offset) word w.beats)
      (s := s.receiving win.path (s.slotOf offset) [.write w true]) ((isResync_iff ..).2 hresync) hmask hroom
    refine listed.trans ?_
    exact congrArg (fun rep => s.writeList.filter ListItem.isResync ++ [.record rep])
      (resyncReport_of_resync ((isResync_iff ..).2 hresync) ..)
  case frame =>
    generalize deliverBoth _ _ _ = v at only
    obtain ⟨paths, routes, mergers, rings, list, rfl⟩ : ∃ paths routes mergers rings list,
        v = { s.receiving win.path (s.slotOf offset) [.write w true] with
          paths := paths, routes := routes, mergers := mergers, rings := rings, writeList := list } :=
      ⟨_, _, _, _, _, only⟩
    rfl

end Sys2Proof.Machine

/-! ## Status words, status timers and cut edges

What each of them makes of the path records, entry by entry, and what it leaves as it was (R103, R108, R154). -/

namespace Sys2Proof.Machine

/-! ### Judgements on one record -/

/-- An entry to a state keeps the fields of the last status word (R112). -/
theorem judged_statusFields (run : Nat) (change : Option (Health × PathCause)) (x : PathRecord) :
    (judged run change x).lastRsl = x.lastRsl ∧ (judged run change x).lastLock = x.lastLock ∧
      (judged run change x).lastStep = x.lastStep := by
  cases change with
  | none => exact ⟨rfl, rfl, rfl⟩
  | some c =>
    obtain ⟨new, cause⟩ := c
    cases new <;> exact ⟨rfl, rfl, rfl⟩

/-- A judgement that names a state leaves the record there (R112). -/
theorem judged_state (run : Nat) (new : Health) (cause : PathCause) (x : PathRecord) :
    (judged run (some (new, cause)) x).state = new := rfl

/-- No status word disables a path (R104 to R107). -/
theorem judgeStatus_ne_disabled {x : PathRecord} {cause : PathCause} : judgeStatus x ≠ some (.disabled, cause) := by
  intro h
  unfold judgeStatus at h
  cases hx : x.state with
  | cut | disabled =>
    simp only [hx] at h
    cases h
  | up | fading | probation | down =>
    simp only [hx] at h
    split_ifs at h <;> cases h

/-- A status word leaves the timer running from now, whatever state it moves the path to (R103, R112). -/
theorem judged_judgeStatus_timer {run : Nat} {x : PathRecord} (h : x.timer = some run) :
    (judged run (judgeStatus x) x).timer = some run := by
  cases hj : judgeStatus x with
  | none => exact h
  | some c =>
    obtain ⟨new, cause⟩ := c
    cases new with
    | disabled => exact absurd hj judgeStatus_ne_disabled
    | probation => rfl
    | up | fading | down | cut => exact h

/-- A status word that leaves the state as it was has moved the path nowhere (R104 to R107). -/
theorem judged_judgeStatus_of_state {run : Nat} {x : PathRecord} (h : (judged run (judgeStatus x) x).state = x.state) :
    judged run (judgeStatus x) x = x := by
  cases hj : judgeStatus x with
  | none => rfl
  | some c =>
    obtain ⟨new, cause⟩ := c
    rw [hj, judged_state] at h
    exact absurd h (judgeStatus_ne hj)

/-! ### Status words -/

/-- A path record after a status word, at a run time (R103). -/
def PathRecord.heard (run : Nat) (w : Word) (x : PathRecord) : PathRecord :=
  if x.state = .disabled then storeStatus w x
  else judged run (judgeStatus (feedCounters run w (storeStatus w x))) (feedCounters run w (storeStatus w x))

/-- A status word is one update of one path record (R103). -/
theorem takeStatusWord_paths (p : Path) (w : Word) (s : State) :
    (takeStatusWord p w s).paths = s.paths.set p (s.paths[p].heard s.tb.runNs w) := by
  unfold takeStatusWord PathRecord.heard
  dsimp only
  split
  next hd =>
    rw [if_pos (c := s.paths[p].state = .disabled) hd]
    rfl
  next hd =>
    rw [if_neg (c := s.paths[p].state = .disabled) hd]
    exact (enterIf_paths ..).trans (by simp)

/-- A status write at a free port is taken, and travels on to the window's translation base (R15, R103). -/
theorem presentWrite_statusWrite {s : State} {w : WriteReq} {p : Path} {word : Word} (h : s.statusWrite w p word) :
    ∃ win offset ws, s.classify w.addr = .window win offset ∧
      ws = [⟨blockBase win.transBase + BitVec.ofNat 32 offset, w.beats.map (swapBeat win.swap), .agent w.tag⟩] ∧
      presentWrite w s.quiet =
        (offerWrites w.tag true false ws (takeStatusWord p word (s.quiet.setWaiting [.write w true]))).setWaiting [] := by
  obtain ⟨win, offset, ⟨hfree, hblock, hrole, hkind, hwin⟩, rfl, hword⟩ := h
  refine ⟨win, offset, _, hwin, rfl, ?_⟩
  have hsnoop : snoopStatus offset w.tag w.beats (s.quiet.setWaiting [.write w true]) =
      takeStatusWord s.agents[w.tag].path word (s.quiet.setWaiting [.write w true]) := by
    unfold snoopStatus State.snooped
    simp only [setWaiting_agents, quiet_agents, hrole, if_true, hword, Option.map_some]
  have haccept : acceptWrite w true (s.quiet.setWaiting [.write w true]) =
      offerWrites w.tag true false [s.translated win offset w.tag w.beats]
        (takeStatusWord s.agents[w.tag].path word (s.quiet.setWaiting [.write w true])) := by
    unfold acceptWrite
    rw [classify_waiting, hwin]
    simp only [hkind, hsnoop]
    rfl
  rw [presentWrite_free w s hfree hblock, haccept, State.translated, windowBase_plain (.inr hkind)]
  rfl

/-- What a status write moves of the state (R15, R103). -/
theorem statusWrite_moves {s u : State} (tag : Tag) (ws : List MemWrite) (qs : List PortRequest) (hw : s.portWaiting = [])
    (only : OnlyHealth (s.quiet.setWaiting qs) u) :
    (offerWrites tag true false ws u).setWaiting [] =
      { s with
        bus := [], offers := s.offers ++ [agentOffer tag false ws], paths := u.paths, routes := u.routes, rings := u.rings
        writeList := u.writeList } := by
  obtain ⟨paths, routes, rings, list, rfl⟩ : ∃ paths routes rings list,
      u = { s.quiet.setWaiting qs with paths := paths, routes := routes, rings := rings, writeList := list } :=
    ⟨_, _, _, _, only⟩
  exact setWaiting_nil
    { s with
      bus := [], offers := s.offers ++ [agentOffer tag false ws], paths := paths, routes := routes, rings := rings
      writeList := list } hw

/-- Settles O28: the record the word feeds is judged once; the judgement keeps the word's fields and the timer. -/
theorem statusWordsAreStoredAndCounted : Obligations.StatusWordsAreStoredAndCounted := by
  intro s w p word h x rsl lock mod
  obtain ⟨win, offset, ws, hwin, rfl, hpresent⟩ := presentWrite_statusWrite h
  have hw : s.portWaiting = [] := by
    obtain ⟨_, _, ⟨hfree, _⟩, _⟩ := h
    exact hfree.2
  rw [statusWrite_moves _ _ _ hw (takeStatusWord_only ..)] at hpresent
  have hpaths := takeStatusWord_paths p word (s.quiet.setWaiting [.write w true])
  have hget : (takeStatusWord p word (s.quiet.setWaiting [.write w true])).paths[p] = x.heard s.tb.runNs word := by
    rw [hpaths]
    exact Vector.getElem_set_self ..
  have hfed := feedCounters_storeStatus s.tb.runNs word x
  refine ⟨_, congrArg Host.Outcome.next hpresent, ?rsl, ?lock, ?step, ?disabled, ?judged, ?others, ?offers, rfl⟩
  case rsl =>
    refine (congrArg PathRecord.lastRsl hget).trans ?_
    unfold PathRecord.heard
    split
    · rfl
    · exact (judged_statusFields ..).1
  case lock =>
    refine (congrArg PathRecord.lastLock hget).trans ?_
    unfold PathRecord.heard
    split
    · rfl
    · exact (judged_statusFields ..).2.1
  case step =>
    refine (congrArg PathRecord.lastStep hget).trans ?_
    unfold PathRecord.heard
    split
    · rfl
    · exact (judged_statusFields ..).2.2
  case disabled => exact fun hd => hget.trans (if_pos hd)
  case judged =>
    intro hd
    have hheard : x.heard s.tb.runNs word = judged s.tb.runNs
        (judgeStatus (feedCounters s.tb.runNs word (storeStatus word x)))
        (feedCounters s.tb.runNs word (storeStatus word x)) := if_neg hd
    refine ⟨?_, fun hsame => ?_⟩
    · exact (congrArg PathRecord.timer (hget.trans hheard)).trans (judged_judgeStatus_timer rfl)
    · refine (hget.trans hheard).trans ((judged_judgeStatus_of_state ?_).trans hfed)
      exact (congrArg PathRecord.state (hget.trans hheard)).symm.trans hsame
  case others =>
    intro q hq
    dsimp only
    rw [hpaths]
    exact Vector.getElem_set_ne _ _ fun h => hq (Fin.ext h.symm)
  case offers =>
    intro win' offset' hwin'
    obtain ⟨rfl, rfl⟩ := Target.window.inj (hwin.symm.trans hwin')
    rfl

/-! ### Status timers -/

/-- A timer that has not expired changes nothing (R108). -/
theorem takeTimer_waits {p : Path} {s : State} (h : timerExpired s.tb.runNs s.paths[p] = false) : takeTimer p s = s := by
  unfold takeTimer
  rw [h]
  rfl

/-- The expiry is one update of one path record (R108). -/
theorem expireTimer_paths (p : Path) (s : State) :
    (expireTimer p s).paths = s.paths.set p
      (judged s.tb.runNs (judgeDown s.paths[p] .statusTimeout) { s.paths[p] with timer := none }) := by
  unfold expireTimer
  exact (enterIf_paths ..).trans (by simp)

theorem judgeDown_of_inService {x : PathRecord} (cause : PathCause) (h : x.state = .up ∨ x.state = .fading ∨ x.state = .probation) :
    judgeDown x cause = some (.down, cause) := if_pos ((inService_iff _).2 h)

theorem judgeDown_of_out {x : PathRecord} (cause : PathCause) (h : x.state = .down ∨ x.state = .cut ∨ x.state = .disabled) :
    judgeDown x cause = none := by
  unfold judgeDown
  rcases h with h | h | h <;> rw [h] <;> rfl

theorem expireTimer_stays {p : Path} {s : State}
    (h : s.paths[p].state = .down ∨ s.paths[p].state = .cut ∨ s.paths[p].state = .disabled) :
    expireTimer p s = s.setPathRec p { s.paths[p] with timer := none } := by
  unfold expireTimer
  rw [judgeDown_of_out _ h]
  rfl

theorem expireTimer_enters {p : Path} {s : State}
    (h : s.paths[p].state = .up ∨ s.paths[p].state = .fading ∨ s.paths[p].state = .probation) :
    expireTimer p s = enterState p .down .statusTimeout (s.setPathRec p { s.paths[p] with timer := none }) := by
  unfold expireTimer
  rw [judgeDown_of_inService _ h]
  rfl

/-- A report of a change reads no record but the path's own (R116). -/
theorem changeReport_setPathRec (s : State) (p : Path) (y : PathRecord) (q : Path) (old : Health) (x : PathRecord) :
    (s.setPathRec p y).changeReport q old x = s.changeReport q old x := rfl

/-- The report of an expiry that takes a path out of UP is listed first (R108, R116). -/
theorem expireTimer_writeList {p : Path} {s : State} (h : s.paths[p].state = .up)
    (hmask : s.rings[(0 : Fin 2)].mask.getLsbD 1 = false)
    (hroom : (s.writeList.filter ListItem.isRecord).length < 8) :
    ∃ rest, (expireTimer p s).writeList =
      s.writeList ++ .record (s.changeReport p .up (expireTimer p s).paths[p]) :: rest := by
  rw [expireTimer_enters (.inl h)]
  obtain ⟨rest, hrest⟩ := enterState_writeList (s := s.setPathRec p { s.paths[p] with timer := none }) p .down
    .statusTimeout hmask hroom
  have hold : (s.setPathRec p { s.paths[p] with timer := none }).paths[p].state = .up := by
    rw [setPathRec_get, if_pos rfl]
    exact h
  rw [hold, changeReport_setPathRec] at hrest
  exact ⟨rest, hrest⟩

theorem timerExpired_some {run start : Nat} {x : PathRecord} (h : x.timer = some start) :
    timerExpired run x = decide (start + x.hs.timeout * 1000000 ≤ run) := by
  unfold timerExpired
  rw [h]
  rfl

theorem timerExpired_none {run : Nat} {x : PathRecord} (h : x.timer = none) : timerExpired run x = false := by
  unfold timerExpired
  rw [h]

/-- Settles O30: a timer that is due stops, and its path goes DOWN where it is in service. -/
theorem statusTimersExpire : Obligations.StatusTimersExpire := by
  intro s p x
  refine ⟨fun start hstart hdue => ?_, fun h => congrArg Host.Outcome.next (takeTimer_waits (s := s.quiet) ?_)⟩
  · have hexpired : timerExpired s.quiet.tb.runNs s.quiet.paths[p] = true :=
      (timerExpired_some hstart).trans (decide_eq_true hdue)
    have hpaths := expireTimer_paths p s.quiet
    have hget : (expireTimer p s.quiet).paths[p] =
        judged s.tb.runNs (judgeDown x .statusTimeout) { x with timer := none } := by
      rw [hpaths]
      exact Vector.getElem_set_self ..
    refine ⟨_, congrArg Host.Outcome.next (if_pos hexpired), fun hin => ?_, fun hout => ?_, fun hup hmask hroom => ?_,
      fun q hq => ?_, expireTimer_only p s.quiet⟩
    · rw [hget, judgeDown_of_inService _ hin]
      rfl
    · rw [hget, judgeDown_of_out _ hout, expireTimer_stays (s := s.quiet) hout]
      exact ⟨rfl, rfl, rfl, rfl⟩
    · obtain ⟨rest, hrest⟩ := expireTimer_writeList (p := p) (s := s.quiet) hup hmask hroom
      refine ⟨rest, hrest.trans ?_⟩
      rw [hget, judgeDown_of_inService _ (.inl hup)]
      rfl
    · rw [hpaths]
      exact Vector.getElem_set_ne _ _ fun h => hq (Fin.ext h.symm)
  · rcases h with h | ⟨start, h, hlt⟩
    · exact timerExpired_none h
    · exact (timerExpired_some h).trans (decide_eq_false (not_le.2 hlt))

/-! ### Cut edges -/

/-- A fold over distinct paths that updates one record at a time updates each of them once. -/
theorem foldl_paths_get {f : State → Path → State} {g : PathRecord → PathRecord}
    (h : ∀ s p, (f s p).paths = s.paths.set p (g s.paths[p])) (ps : List Path) (hps : ps.Nodup) (s : State) (q : Path) :
    (ps.foldl f s).paths[q] = if q ∈ ps then g s.paths[q] else s.paths[q] := by
  induction ps generalizing s with
  | nil => simp
  | cons p ps ih =>
    rw [List.foldl_cons, ih hps.of_cons]
    by_cases hpq : p = q
    · subst hpq
      simp [hps.notMem, h]
    · have hget : (f s p).paths[q] = s.paths[q] := by
        rw [h]
        exact Vector.getElem_set_ne _ _ fun he => hpq (Fin.ext he)
      simp [hget, Ne.symm hpq]

/-- A path record after a cut event (R154, R155). -/
def PathRecord.cutBy (cause : PathCause) (x : PathRecord) : PathRecord :=
  if x.set.cutEnable = true ∧ x.state ≠ .cut ∧ x.state ≠ .disabled then
    { x with
      state := .cut, lastCause := cause.code, belowFade := 0, belowDown := 0, aboveRecover := 0, countdown := 0 }
  else x

theorem cutPath_paths (cause : PathCause) (p : Path) (s : State) :
    (cutPath cause p s).paths = s.paths.set p (s.paths[p].cutBy cause) := by
  unfold cutPath
  rw [enterIf_paths]
  congr 1
  unfold judgeCut PathRecord.cutBy
  split <;> rfl

/-- A cut event cuts every path it may (R154). -/
theorem cutEvent_get (cause : PathCause) (s : State) (q : Path) :
    (cutEvent cause s).paths[q] = s.paths[q].cutBy cause := by
  unfold cutEvent
  rw [foldl_paths_get (fun s p => cutPath_paths cause p s) _ (by decide), if_pos (mem_allPaths q)]

/-- Settles O32: a due edge is taken as a cut event with cause CUT_LINE. -/
theorem cutEdgesCutEveryEnabledPath : Obligations.CutEdgesCutEveryEnabledPath := by
  intro s hlevel hrun
  have hrising : s.quiet.cut.rising = true := by
    unfold Filter.rising Filter.due
    simp [hlevel, hrun, Config.filterSamples]
  have only := cutEvent_only .cutLine (s.quiet.setCut s.cut.change)
  have hcut : (cutEvent .cutLine (s.quiet.setCut s.cut.change)).cut = ⟨true, 0⟩ := by
    rw [only.cut]
    unfold Filter.change
    simp [hlevel]
  have hexec : exec .cutEdge s = .next (cutEvent .cutLine (s.quiet.setCut s.cut.change)) :=
    congrArg Host.Outcome.next (if_pos hrising)
  refine ⟨_, hexec, hcut, fun q => cutEvent_get ..,  ?_⟩
  generalize cutEvent .cutLine (s.quiet.setCut s.cut.change) = u at only hcut
  obtain ⟨paths, routes, rings, list, rfl⟩ : ∃ paths routes rings list,
      u = { s.quiet.setCut s.cut.change with paths := paths, routes := routes, rings := rings, writeList := list } :=
    ⟨_, _, _, _, only⟩
  rfl

end Sys2Proof.Machine

/-! ## Boundaries, update events and stats events

What a due boundary makes, and the statistics of a stats event as one list of reports and one restart of the counts
(R58 to R60, R32, R99). -/

namespace Sys2Proof.Machine

/-! ### Folds seen through one part of the state -/

/-- A fold none of whose steps moves a part of the state leaves it. -/
theorem foldl_view_skip {σ ι β : Type} {f : σ → ι → σ} {view : σ → β} {l : List ι}
    (h : ∀ i ∈ l, ∀ s, view (f s i) = view s) (s : σ) : view (l.foldl f s) = view s := by
  induction l generalizing s with
  | nil => rfl
  | cons i l ih =>
    rw [List.foldl_cons, ih fun j hj => h j (List.mem_cons_of_mem _ hj)]
    exact h i List.mem_cons_self s

/-- A fold that takes each step once, only one of which moves a part of the state, moves it once. -/
theorem foldl_view_once {σ ι β : Type} {f : σ → ι → σ} {view : σ → β} {g : β → β} {l : List ι} {k : ι} (hl : l.Nodup)
    (hk : k ∈ l) (hmove : ∀ s, view (f s k) = g (view s)) (hother : ∀ i ∈ l, i ≠ k → ∀ s, view (f s i) = view s) (s : σ) :
    view (l.foldl f s) = g (view s) := by
  obtain ⟨before, behind, rfl⟩ := List.append_of_mem hk
  obtain ⟨-, hbehind, hne⟩ := List.nodup_append.1 hl
  have hafter : k ∉ behind := (List.nodup_cons.1 hbehind).1
  rw [List.foldl_append, List.foldl_cons, foldl_view_skip fun i hi => hother i (by simp [hi]) fun h => hafter (h ▸ hi), hmove,
    foldl_view_skip fun i hi => hother i (by simp [hi]) fun h => hne k (h ▸ hi) k List.mem_cons_self rfl]

/-- The same where the parts are seen of states that satisfy an invariant of the steps. -/
theorem foldl_view_once_of {σ ι β : Type} {f : σ → ι → σ} {view : σ → β} {g : β → β} {I : σ → Prop} {l : List ι} {k : ι}
    (hl : l.Nodup) (hk : k ∈ l) (hI : ∀ i s, I s → I (f s i)) (hmove : ∀ s, I s → view (f s k) = g (view s))
    (hother : ∀ i, i ≠ k → ∀ s, I s → view (f s i) = view s) {s : σ} (hs : I s) :
    view (l.foldl f s) = g (view s) := by
  have hlift : ∀ (l : List ι) (x : {s : σ // I s}),
      (l.foldl (fun (x : {s : σ // I s}) i => ⟨f x.1 i, hI i x.1 x.2⟩) x).1 = l.foldl f x.1 := by
    intro l
    induction l with
    | nil => exact fun _ => rfl
    | cons i l ih => exact fun x => ih _
  have h := foldl_view_once (f := fun (x : {s : σ // I s}) i => ⟨f x.1 i, hI i x.1 x.2⟩) (view := fun x => view x.1) (g := g)
    hl hk (fun x => hmove x.1 x.2) (fun i _ hi x => hother i hi x.1 x.2) ⟨s, hs⟩
  rwa [hlift] at h

/-- A fold that takes each step once, two of which move a part of the state, moves it twice, in one order or the other. -/
theorem foldl_view_twice {σ ι β : Type} {f : σ → ι → σ} {view : σ → β} {g h : β → β} {l : List ι} {j k : ι} (hl : l.Nodup)
    (hj : j ∈ l) (hk : k ∈ l) (hjk : j ≠ k) (hmovej : ∀ s, view (f s j) = g (view s))
    (hmovek : ∀ s, view (f s k) = h (view s)) (hother : ∀ i ∈ l, i ≠ j → i ≠ k → ∀ s, view (f s i) = view s) (s : σ) :
    view (l.foldl f s) = h (g (view s)) ∨ view (l.foldl f s) = g (h (view s)) := by
  obtain ⟨before, behind, rfl⟩ := List.append_of_mem hj
  obtain ⟨hbefore, hbehind, hne⟩ := List.nodup_append.1 hl
  obtain ⟨hafter, hbehind⟩ := List.nodup_cons.1 hbehind
  have hjbefore : j ∉ before := fun h => hne j h j List.mem_cons_self rfl
  rw [List.foldl_append, List.foldl_cons]
  by_cases hkb : k ∈ before
  · have hkbehind : k ∉ behind := fun h => hne k hkb k (List.mem_cons_of_mem _ h) rfl
    refine .inr ?_
    rw [foldl_view_skip fun i hi => hother i (by simp [hi]) (fun h => hafter (h ▸ hi)) fun h => hkbehind (h ▸ hi), hmovej,
      foldl_view_once hbefore hkb hmovek fun i hi hik => hother i (by simp [hi]) (fun h => hjbefore (h ▸ hi)) hik]
  · have hkbehind : k ∈ behind := by simpa [hkb, Ne.symm hjk] using hk
    refine .inl ?_
    rw [foldl_view_once hbehind hkbehind hmovek fun i hi hik => hother i (by simp [hi]) (fun h => hafter (h ▸ hi)) hik,
      hmovej, foldl_view_skip fun i hi => hother i (by simp [hi]) (fun h => hjbefore (h ▸ hi)) fun h => hkb (h ▸ hi)]

/-! ### The statistics reports -/

/-- Reports change the rings and the write list alone (R176). -/
theorem reported_only (s : State) (rs : List Report) : OnlyReports s (s.reported rs) :=
  OnlyReports.foldl (fun s r => submit_only r s) rs s

theorem meanOf_eq (sum count : Nat) : meanOf sum count = if count = 0 then 0 else sum / count := by
  unfold meanOf
  split
  next h => rw [h, Nat.div_zero]
  next => rfl

theorem meanMargin_eq (c : PathCounts) :
    meanMargin c =
      max (-2147483648) (min (if c.lateCopies = 0 then 0 else c.marginSum / (c.lateCopies : Int)) 2147483647) := by
  unfold meanMargin clampInt
  split
  next h =>
    rw [h]
    simp
  next => rfl

/-- The code of a path's state in its records (R118). -/
theorem health_code (h : Health) :
    BitVec.ofNat 8 h.code =
      match h with | .disabled => 0 | .probation => 1 | .up => 2 | .fading => 3 | .down => 4 | .cut => 5 := by
  cases h <;> rfl

/-- The code of a route's mode in its records (R136). -/
theorem mode_code (m : Mode) :
    BitVec.ofNat 8 m.code = match m with | .single => 0 | .mirror => 1 | .fallback => 2 | .dark => 3 := by
  cases m <;> rfl

/-- The reports of one path, in their order (R99). -/
theorem reportPath_eq (p : Path) (s : State) : reportPath p s = s.reported (s.pathReports p) := by
  unfold reportPath State.pathReports
  dsimp only
  by_cases h : s.paths[p].state = .disabled
  · rw [if_pos h, if_pos h]
    rfl
  · rw [if_neg h, if_neg h, reported_cons, reported_cons, reported_nil]
    unfold makeReport
    rw [health_code]
    congr 1
    · unfold txStats meanDwell
      dsimp only
      rw [meanOf_eq]
      cases s.paths[p].tx <;> rfl
    · congr 1
      unfold rxStats
      dsimp only
      rw [meanOf_eq, meanMargin_eq, i32, ← sat32_eq]
      cases s.paths[p].est <;> cases s.paths[p].tx <;> rfl

/-- The report of one route (R32). -/
theorem reportRoute_eq (r : Route) (s : State) : reportRoute r s = s.reported (s.routeReports r) := by
  unfold reportRoute State.routeReports
  dsimp only
  by_cases h : s.routes[r].live = []
  · rw [if_pos h, if_pos (List.isEmpty_iff.2 h)]
    rfl
  · rw [if_neg h, if_neg (mt List.isEmpty_iff.1 h), reported_cons, reported_nil]
    exact congrArg (fun cause => submit ⟨.routeStats, BitVec.ofNat 8 r.val, cause, stampWord s.reading 0, _⟩ s) (mode_code _)

theorem pathReports_congr {s t : State} (only : OnlyReports s t) : t.pathReports = s.pathReports := by
  funext p
  unfold State.pathReports State.reading
  rw [only.paths, only.tb]

theorem routeReports_congr {s t : State} (only : OnlyReports s t) : t.routeReports = s.routeReports := by
  funext r
  unfold State.routeReports State.reading
  rw [only.routes, only.steer, only.mergers, only.tb]

/-- Reports made one after another, each of a state that reports leave as it is, are one list (R176). -/
theorem foldl_reported {ι : Type} {f : State → ι → State} {reports : State → ι → List Report}
    (hf : ∀ s i, f s i = s.reported (reports s i)) (hr : ∀ s t, OnlyReports s t → reports t = reports s) (l : List ι)
    (s : State) : l.foldl f s = s.reported (l.flatMap (reports s)) := by
  induction l generalizing s with
  | nil => rfl
  | cons i l ih =>
    rw [List.foldl_cons, ih, hf, hr _ _ (reported_only ..), List.flatMap_cons, reported_append]

theorem foldl_reportPath (s : State) :
    allPaths.foldl (fun s p => reportPath p s) s = s.reported (allPaths.flatMap s.pathReports) :=
  foldl_reported (fun s p => reportPath_eq p s) (fun _ _ only => pathReports_congr only) _ s

theorem foldl_reportRoute (s : State) :
    allRoutes.foldl (fun s r => reportRoute r s) s = s.reported (allRoutes.flatMap s.routeReports) :=
  foldl_reported (fun s r => reportRoute_eq r s) (fun _ _ only => routeReports_congr only) _ s

/-! ### The restart of the counts -/

/-- A fold over every path of changes to its own record moves the path records alone. -/
theorem foldl_restartCounts_frame (ps : List Path) (s : State) :
    ps.foldl (fun s p => restartCounts p s) s =
      { s with paths := (ps.foldl (fun s p => restartCounts p s) s).paths } := by
  induction ps generalizing s with
  | nil => rfl
  | cons p ps ih =>
    rw [List.foldl_cons, ih]
    rfl

/-- The period counts of every path restart (R99). -/
theorem foldl_restartCounts (s : State) :
    allPaths.foldl (fun s p => restartCounts p s) s =
      { s with paths := s.paths.map (fun x => { x with period := x.period.after true }) } := by
  have hpaths : (allPaths.foldl (fun s p => restartCounts p s) s).paths =
      s.paths.map (fun x => { x with period := x.period.after true }) := by
    refine Vector.ext fun i hi => ?_
    have hget := foldl_paths_get (f := fun s p => restartCounts p s)
      (g := fun x => { x with period := x.period.after true }) (fun s p => rfl) allPaths (by decide) s ⟨i, hi⟩
    rw [if_pos (mem_allPaths _)] at hget
    rw [Vector.getElem_map]
    exact hget
  rw [foldl_restartCounts_frame, hpaths]

/-- One route's counts in the three blocks after their restart (R32, R131, R150). -/
theorem restartRoute_fields (r : Route) (s : State) :
    restartRoute r s =
      { s with
        steer := s.steer.set r { s.steer[r] with commits := 0, darkDiscards := 0, abandoned := 0, mirrored := 0 } r.isLt
        mergers := s.mergers.set r { s.mergers[r] with stale := 0, resyncs := 0 } r.isLt
        routes := s.routes.set r { s.routes[r] with modeChanges := 0 } r.isLt } := rfl

theorem foldl_restartRoute_frame (rs : List Route) (s : State) :
    rs.foldl (fun s r => restartRoute r s) s =
      { s with
        steer := (rs.foldl (fun s r => restartRoute r s) s).steer
        mergers := (rs.foldl (fun s r => restartRoute r s) s).mergers
        routes := (rs.foldl (fun s r => restartRoute r s) s).routes } := by
  induction rs generalizing s with
  | nil => rfl
  | cons r rs ih =>
    rw [List.foldl_cons, ih]
    rfl

theorem mem_allRoutes (r : Route) : r ∈ allRoutes := by
  revert r
  decide

/-- The restart of one route, seen from a route: its own restarts, every other's leaves it. -/
theorem restartRoute_get (r k : Route) (s : State) :
    ((restartRoute r s).steer[k], (restartRoute r s).mergers[k], (restartRoute r s).routes[k]) =
      if r = k then
        ({ s.steer[k] with commits := 0, darkDiscards := 0, abandoned := 0, mirrored := 0 },
          { s.mergers[k] with stale := 0, resyncs := 0 }, { s.routes[k] with modeChanges := 0 })
      else (s.steer[k], s.mergers[k], s.routes[k]) := by
  rw [restartRoute_fields]
  by_cases h : r = k
  · subst h
    simp
  · have hne : r.val ≠ k.val := fun he => h (Fin.ext he)
    simp [h, Vector.getElem_set_ne _ _ hne]

theorem foldl_restartRoute_get (k : Route) (s : State) :
    let t := allRoutes.foldl (fun s r => restartRoute r s) s
    (t.steer[k], t.mergers[k], t.routes[k]) =
      ({ s.steer[k] with commits := 0, darkDiscards := 0, abandoned := 0, mirrored := 0 },
        { s.mergers[k] with stale := 0, resyncs := 0 }, { s.routes[k] with modeChanges := 0 }) :=
  foldl_view_once (f := fun s r => restartRoute r s)
    (view := fun t : State => (t.steer[k], t.mergers[k], t.routes[k]))
    (g := fun x => ({ x.1 with commits := 0, darkDiscards := 0, abandoned := 0, mirrored := 0 },
      { x.2.1 with stale := 0, resyncs := 0 }, { x.2.2 with modeChanges := 0 }))
    (by decide) (mem_allRoutes k) (fun s => (restartRoute_get k k s).trans (if_pos rfl))
    (fun r _ hr s => (restartRoute_get r k s).trans (if_neg hr)) s

/-- The route counts of the three blocks restart for every route (R32, R131, R150). -/
theorem foldl_restartRoute (s : State) :
    allRoutes.foldl (fun s r => restartRoute r s) s =
      { s with
        steer := s.steer.map (fun x => { x with commits := 0, darkDiscards := 0, abandoned := 0, mirrored := 0 })
        mergers := s.mergers.map (fun x => { x with stale := 0, resyncs := 0 })
        routes := s.routes.map (fun x => { x with modeChanges := 0 }) } := by
  have hget := fun k => Prod.mk.inj (foldl_restartRoute_get k s)
  rw [foldl_restartRoute_frame]
  congr 1
  · refine Vector.ext fun i hi => ?_
    rw [Vector.getElem_map]
    exact (hget ⟨i, hi⟩).1
  · refine Vector.ext fun i hi => ?_
    rw [Vector.getElem_map]
    exact (Prod.mk.inj (hget ⟨i, hi⟩).2).2
  · refine Vector.ext fun i hi => ?_
    rw [Vector.getElem_map]
    exact (Prod.mk.inj (hget ⟨i, hi⟩).2).1

/-- The path statistics of a stats event: the reports, then the restart (R99). -/
theorem pathStats_eq (s : State) :
    pathStats s =
      { s.reported (allPaths.flatMap s.pathReports) with
        paths := s.paths.map (fun x => { x with period := x.period.after true }) } := by
  unfold pathStats
  rw [foldl_reportPath, foldl_restartCounts, (reported_only ..).paths]

/-- The route statistics of a stats event: the reports, then the restart (R32). -/
theorem routeStats_eq (s : State) :
    routeStats s =
      { s.reported (allRoutes.flatMap s.routeReports) with
        steer := s.steer.map (fun x => { x with commits := 0, darkDiscards := 0, abandoned := 0, mirrored := 0 })
        mergers := s.mergers.map (fun x => { x with stale := 0, resyncs := 0 })
        routes := s.routes.map (fun x => { x with modeChanges := 0 }) } := by
  unfold routeStats
  rw [foldl_reportRoute, foldl_restartRoute, (reported_only ..).steer, (reported_only ..).mergers, (reported_only ..).routes]

/-! ### Boundaries -/

theorem takeBoundary_idle {s : State} (h : s.tb.boundaryDue = false) : takeBoundary s = s := by
  unfold takeBoundary
  rw [h]
  rfl

theorem makesUpdate_iff (t : TimeBase) : t.makesUpdate = true ↔ t.boundaryDue = true ∧ t.repetition = 0 := by
  unfold TimeBase.makesUpdate
  simp

theorem makesStats_iff (t : TimeBase) :
    t.makesStats = true ↔ (t.boundaryDue = true ∧ t.repetition = 0) ∧ t.stats = 1 := by
  unfold TimeBase.makesStats
  simp [makesUpdate_iff]

/-- A boundary that makes no update event counts the repetition down (R59). -/
theorem takeBoundary_repeats {s : State} (hdue : s.tb.boundaryDue = true) (hrep : s.tb.repetition ≠ 0) :
    takeBoundary s = s.setTb { s.tb with boundaryDue := false, repetition := s.tb.repetition - 1 } := by
  have hno : ¬ s.tb.makesUpdate = true := fun h => hrep ((makesUpdate_iff _).1 h).2
  unfold takeBoundary TimeBase.afterBoundary
  rw [if_pos hdue, if_neg hno, if_neg hrep]

/-- A boundary at a repetition of 0 makes an update event, in the order of the next free choice (R59, R60). -/
theorem takeBoundary_updates {s : State} (hdue : s.tb.boundaryDue = true) (hrep : s.tb.repetition = 0) :
    takeBoundary s =
      updateEvent (decide (s.tb.stats = 1)) (Config.updateOrder s.choice)
        { s with
          choice := s.choice + 1
          tb :=
            { s.tb with
              boundaryDue := false, repetition := s.tb.r
              stats := if s.tb.stats = 1 then s.tb.s else s.tb.stats - 1 } } := by
  have hup : s.tb.makesUpdate = true := (makesUpdate_iff _).2 ⟨hdue, hrep⟩
  have hstats : s.tb.makesStats = decide (s.tb.stats = 1) := by
    rw [Bool.eq_iff_iff, makesStats_iff, decide_eq_true_iff]
    exact and_iff_right ⟨hdue, hrep⟩
  unfold takeBoundary
  rw [if_pos hdue, if_pos hup, hstats]
  unfold TimeBase.afterBoundary
  rw [if_pos hrep]
  rfl

theorem exec_updateEvent (s : State) :
    exec .updateEvent s = .next (if s.tb.makesUpdate = true then takeBoundary s.quiet else s.quiet) := rfl

theorem exec_statsEvent (s : State) :
    exec .statsEvent s = .next (if s.tb.makesStats = true then takeBoundary s.quiet else s.quiet) := rfl

theorem exec_boundary (s : State) : exec .boundary s = .next (takeBoundary s.quiet) := rfl

/-- Settles O50: the statistics as lists of reports with their restarts, then a due boundary by its counters. -/
theorem boundariesMakeUpdateAndStatsEvents : Obligations.BoundariesMakeUpdateAndStatsEvents := by
  refine ⟨fun s => ⟨pathStats_eq s, routeStats_eq s⟩, ?_⟩
  intro s b idle order
  refine ⟨fun hdue => ?none, fun hdue hrep => ?counts, fun hdue hrep hstats => ?update, fun hdue hrep hstats => ?stats⟩
  case none =>
    have hno : ¬ s.tb.boundaryDue = true := fun h => Bool.false_ne_true (hdue.symm.trans h)
    rw [exec_updateEvent, exec_statsEvent, exec_boundary, takeBoundary_idle (s := s.quiet) hdue,
      if_neg fun h => hno ((makesUpdate_iff _).1 h).1, if_neg fun h => hno ((makesStats_iff _).1 h).1.1]
    exact ⟨rfl, rfl, rfl⟩
  case counts =>
    rw [exec_updateEvent, exec_statsEvent, exec_boundary, takeBoundary_repeats (s := s.quiet) hdue hrep,
      if_neg fun h => hrep ((makesUpdate_iff _).1 h).2, if_neg fun h => hrep ((makesStats_iff _).1 h).1.2]
    exact ⟨rfl, rfl, rfl⟩
  case update =>
    rw [exec_updateEvent, exec_statsEvent, exec_boundary, if_pos ((makesUpdate_iff _).2 ⟨hdue, hrep⟩),
      if_neg fun h => hstats ((makesStats_iff _).1 h).2, takeBoundary_updates (s := s.quiet) hdue hrep,
      decide_eq_false (p := s.quiet.tb.stats = 1) hstats, if_neg (c := s.quiet.tb.stats = 1) hstats]
    exact ⟨rfl, rfl, rfl⟩
  case stats =>
    rw [exec_updateEvent, exec_statsEvent, exec_boundary, if_pos ((makesUpdate_iff _).2 ⟨hdue, hrep⟩),
      if_pos ((makesStats_iff _).2 ⟨⟨hdue, hrep⟩, hstats⟩), takeBoundary_updates (s := s.quiet) hdue hrep,
      decide_eq_true (p := s.quiet.tb.stats = 1) hstats, if_pos (c := s.quiet.tb.stats = 1) hstats]
    exact ⟨rfl, rfl, rfl⟩

end Sys2Proof.Machine

/-! ## The work of an update event

Every order of the work is a permutation of one list of tasks (log 7); each task is seen through the parts of the state it
moves, so what an event makes of a part does not depend on the order, the release of a CUT path apart (R93, R131, R159). -/

namespace Sys2Proof.Machine

/-! ### The schedule -/

theorem mem_allTasks (t : UpdateTask) : t ∈ allTasks := by
  cases t with
  | pathStats | routes | release => decide
  | monitor p => simp [allTasks, mem_allPaths p]

theorem nodup_eraseDups {α : Type} [BEq α] [LawfulBEq α] (l : List α) : l.eraseDups.Nodup := by
  induction hn : l.length using Nat.strong_induction_on generalizing l with
  | _ n ih =>
    cases l with
    | nil => exact List.nodup_nil
    | cons a l =>
      have hshort : (l.filter (fun b => !b == a)).length < n := hn ▸ Nat.lt_succ_of_le (List.length_filter_le ..)
      rw [List.eraseDups_cons]
      refine List.nodup_cons.2 ⟨?_, ih _ hshort _ rfl⟩
      simp [List.mem_eraseDups]

/-- The tasks of a wish made whole, each once. -/
theorem mem_eraseDups_allTasks (wish : List UpdateTask) (t : UpdateTask) : t ∈ (wish ++ allTasks).eraseDups :=
  List.mem_eraseDups.2 (List.mem_append_right _ (mem_allTasks t))

/-- A list that begins with a task and goes on with the others of a whole list is whole. -/
theorem whole_cons_filter {l : List UpdateTask} (hl : l.Nodup) (hall : ∀ t, t ∈ l) (a : UpdateTask) :
    (a :: l.filter (fun t => t != a)).Nodup ∧ ∀ t, t ∈ a :: l.filter (fun t => t != a) := by
  refine ⟨List.nodup_cons.2 ⟨by simp, hl.filter _⟩, fun t => ?_⟩
  by_cases h : t = a
  · exact h ▸ List.mem_cons_self
  · exact List.mem_cons_of_mem _ (List.mem_filter.2 ⟨hall t, by simpa using h⟩)

/-- A schedule holds every task once, and begins with the path statistics, or with the Route Selector's work and then
them (R99, log 7). -/
theorem updateSchedule_whole (wish : List UpdateTask) :
    (updateSchedule wish).Nodup ∧ (∀ t, t ∈ updateSchedule wish) ∧
      ((updateSchedule wish).head? = some .pathStats ∨ (updateSchedule wish).take 2 = [.routes, .pathStats]) := by
  obtain ⟨hstats, hallstats⟩ := whole_cons_filter (nodup_eraseDups (wish ++ allTasks)) (mem_eraseDups_allTasks wish) .pathStats
  unfold updateSchedule
  dsimp only
  split
  · obtain ⟨hroutes, hallroutes⟩ := whole_cons_filter hstats hallstats .routes
    exact ⟨hroutes, hallroutes, .inr rfl⟩
  · exact ⟨hstats, hallstats, .inl rfl⟩

theorem updateSchedule_perm (wish : List UpdateTask) : (updateSchedule wish).Perm allTasks := by
  obtain ⟨hnodup, hall, -⟩ := updateSchedule_whole wish
  exact (List.perm_ext_iff_of_nodup hnodup (by decide)).2 fun t => iff_of_true (hall t) (mem_allTasks t)

/-! ### The windows and the dark-reported flags -/

theorem foldl_installWindow_frame (is : List (Fin 8)) (s : State) :
    is.foldl installWindow s = { s with windows := (is.foldl installWindow s).windows } := by
  induction is generalizing s with
  | nil => rfl
  | cons i is ih =>
    have hone : installWindow s i = { s with windows := (installWindow s i).windows } := by
      unfold installWindow
      split <;> rfl
    rw [List.foldl_cons, ih, hone]

theorem installWindow_get (i k : Fin 8) (s : State) :
    (installWindow s i).windows[k] =
      if i = k then (if s.windows[k].pending then ⟨s.windows[k].preload, s.windows[k].preload, false⟩ else s.windows[k])
      else s.windows[k] := by
  unfold installWindow State.setWindowEntry
  by_cases h : i = k
  · subst h
    rw [if_pos rfl]
    split
    · exact Vector.getElem_set_self ..
    · rfl
  · rw [if_neg h]
    split
    · exact Vector.getElem_set_ne i.isLt k.isLt fun he => h (Fin.ext he)
    · rfl

/-- Every pending window preload is installed (R11). -/
theorem installWindows_eq (s : State) :
    installWindows s =
      { s with windows := s.windows.map (fun x => if x.pending then ⟨x.preload, x.preload, false⟩ else x) } := by
  unfold installWindows
  rw [foldl_installWindow_frame]
  have hwindows : (allPaths.foldl installWindow s).windows =
      s.windows.map (fun x => if x.pending then ⟨x.preload, x.preload, false⟩ else x) := by
    refine Vector.ext fun i hi => ?_
    rw [Vector.getElem_map]
    exact foldl_view_once (f := installWindow) (view := fun s : State => s.windows[i])
      (g := fun x => if x.pending then ⟨x.preload, x.preload, false⟩ else x) (by decide) (mem_allPaths ⟨i, hi⟩)
      (fun s => (installWindow_get ⟨i, hi⟩ ⟨i, hi⟩ s).trans (if_pos rfl))
      (fun k _ hk s => (installWindow_get k ⟨i, hi⟩ s).trans (if_neg hk)) s
  rw [hwindows]

theorem foldl_rearmRoute_frame (rs : List Route) (s : State) :
    rs.foldl rearmRoute s = { s with steer := (rs.foldl rearmRoute s).steer } := by
  induction rs generalizing s with
  | nil => rfl
  | cons r rs ih =>
    rw [List.foldl_cons, ih]
    rfl

/-- The dark-reported flags are cleared (R32). -/
theorem rearmDark_eq (s : State) :
    rearmDark s = { s with steer := s.steer.map (fun x => { x with darkReported := false }) } := by
  unfold rearmDark
  rw [foldl_rearmRoute_frame]
  have hsteer : (allRoutes.foldl rearmRoute s).steer = s.steer.map (fun x => { x with darkReported := false }) := by
    refine Vector.ext fun i hi => ?_
    rw [Vector.getElem_map]
    exact foldl_view_once (f := rearmRoute) (view := fun s : State => s.steer[i])
      (g := fun x => { x with darkReported := false }) (by decide) (mem_allRoutes ⟨i, hi⟩)
      (fun s => (setSteer_get s ⟨i, hi⟩ ⟨i, hi⟩ _).trans (if_pos rfl))
      (fun k _ hk s => (setSteer_get s k ⟨i, hi⟩ _).trans (if_neg hk)) s
  rw [hsteer]

/-- The state in which the tasks of an update event are taken (R11, R32). -/
def State.rearmed (s : State) : State :=
  { s with
    windows := s.windows.map (fun x => if x.pending then ⟨x.preload, x.preload, false⟩ else x)
    steer := s.steer.map (fun x => { x with darkReported := false }) }

theorem updateEvent_eq (stats : Bool) (wish : List UpdateTask) (s : State) :
    updateEvent stats wish s = (updateSchedule wish).foldl (fun s t => runTask stats t s) s.rearmed := by
  unfold updateEvent
  rw [installWindows_eq, rearmDark_eq]
  rfl

/-! ### A route seen through a reselection -/

/-- A route record without what a selection moves (R136). -/
def RouteRecord.standing (x : RouteRecord) : RouteRecord := { x with chosen := darkChoice, modeChanges := 0 }

/-- Only the selections of routes that name a path can have moved. -/
structure SelectsOnly (s t : State) : Prop where
  standing : ∀ k : Route, t.routes[k].standing = s.routes[k].standing
  unnamed : ∀ k : Route, s.routes[k].live = [] → t.routes[k] = s.routes[k]

theorem SelectsOnly.of_routes {s t : State} (h : t.routes = s.routes) : SelectsOnly s t := by
  refine ⟨fun k => ?_, fun k _ => ?_⟩ <;> rw [h]

theorem SelectsOnly.trans {s t u : State} (h : SelectsOnly s t) (k : SelectsOnly t u) : SelectsOnly s u := by
  refine ⟨fun r => (k.standing r).trans (h.standing r), fun r hlive => ?_⟩
  rw [k.unnamed r (h.unnamed r hlive ▸ hlive), h.unnamed r hlive]

theorem SelectsOnly.foldl {ι : Type} {f : State → ι → State} (h : ∀ s i, SelectsOnly s (f s i)) (l : List ι) (s : State) :
    SelectsOnly s (l.foldl f s) := by
  induction l generalizing s with
  | nil => exact .of_routes rfl
  | cons i l ih => exact (h s i).trans (ih _)

/-- A choice leaves what is not selection. -/
theorem choose_standing (r : Route) (c : RouteCause) (q : Option Path) (new : Choice) (s : State) (k : Route) :
    (choose r c q new s).routes[k].standing = s.routes[k].standing := by
  obtain ⟨n, hn⟩ := choose_get r c q new s
  rw [hn k]
  split
  next h =>
    subst h
    rfl
  next => rfl

/-- A route whose live list is empty names no path, so no change of state reselects it (R126). -/
theorem reselectRoute_selectsOnly (q : Path) (old new : Health) (r : Route) (s : State) :
    SelectsOnly s (reselectRoute q old new r s) := by
  refine ⟨fun k => ?_, fun k hlive => ?_⟩
  · unfold reselectRoute
    split
    · split
      · exact choose_standing ..
      · rfl
    · rfl
  · by_cases h : r = k
    · subst h
      unfold reselectRoute names
      rw [hlive]
      rfl
    · exact reselectRoute_other q old new h s

theorem reselect_selectsOnly (q : Path) (old new : Health) (s : State) : SelectsOnly s (reselect q old new s) :=
  .foldl (fun s r => reselectRoute_selectsOnly q old new r s) _ s

theorem setPathRec_selectsOnly (s : State) (p : Path) (x : PathRecord) : SelectsOnly s (s.setPathRec p x) :=
  .of_routes (setPathRec_routes s p x)

theorem enterState_selectsOnly (p : Path) (new : Health) (cause : PathCause) (s : State) :
    SelectsOnly s (enterState p new cause s) := by
  rw [enterState_eq]
  exact ((setPathRec_selectsOnly ..).trans (.of_routes (submit_only ..).routes)).trans (reselect_selectsOnly ..)

theorem enterIf_selectsOnly (p : Path) (change : Option (Health × PathCause)) (s : State) :
    SelectsOnly s (enterIf p change s) := by
  unfold enterIf
  split
  · exact enterState_selectsOnly ..
  · exact .of_routes rfl

theorem judgeProbation_selectsOnly (p : Path) (s : State) : SelectsOnly s (judgeProbation p s) := by
  unfold judgeProbation
  split
  · exact enterState_selectsOnly ..
  · exact .of_routes rfl

theorem countProbation_selectsOnly (p : Path) (s : State) : SelectsOnly s (countProbation p s) := by
  unfold countProbation
  split
  · split
    · exact (setPathRec_selectsOnly s p _).trans (judgeProbation_selectsOnly ..)
    · exact setPathRec_selectsOnly ..
  · exact .of_routes rfl

theorem monitorUpdate_selectsOnly (p : Path) (s : State) : SelectsOnly s (monitorUpdate p s) :=
  ((enterIf_selectsOnly p _ s).trans (countProbation_selectsOnly p _)).trans
    ((setPathRec_selectsOnly _ p _).trans (setPathRec_selectsOnly _ p _))

theorem autoRelease_selectsOnly (s : State) : SelectsOnly s (autoRelease s) := by
  unfold autoRelease
  split
  · exact .of_routes rfl
  · exact .foldl (fun s p => enterIf_selectsOnly ..) _ s

/-- No task but the Route Selector's own moves more of a route than its selection (R126). -/
theorem runTask_selectsOnly (stats : Bool) {t : UpdateTask} (h : t ≠ .routes) (s : State) :
    SelectsOnly s (runTask stats t s) := by
  cases t with
  | pathStats =>
    refine .of_routes ?_
    unfold runTask
    dsimp only
    split
    · rw [pathStats_eq]
      exact (reported_only ..).routes
    · rfl
  | routes => exact absurd rfl h
  | release => exact autoRelease_selectsOnly s
  | monitor p => exact monitorUpdate_selectsOnly p s

end Sys2Proof.Machine

/-! ## What an update event makes of each path and each route

The tasks seen through one path's record and through one route's records (R93, R99, R122, R131, R159). -/

namespace Sys2Proof.Machine

/-! ### The Route Selector's work on one route -/

theorem choose_other {r k : Route} (h : r ≠ k) (c : RouteCause) (q : Option Path) (new : Choice) (s : State) :
    (choose r c q new s).routes[k] = s.routes[k] := by
  obtain ⟨n, hn⟩ := choose_get r c q new s
  exact (hn k).trans (if_neg h)

theorem routeInstalled_other {r k : Route} (h : r ≠ k) (s : State) : (s.routeInstalled r).routes[k] = s.routes[k] := by
  unfold State.routeInstalled
  split
  · exact (choose_other h ..).trans ((setRouteRec_get ..).trans (if_neg h))
  · rfl

theorem rerank_other {r k : Route} (h : r ≠ k) (s : State) : (rerank r s).routes[k] = s.routes[k] := by
  unfold rerank
  dsimp only
  split
  · split
    · split
      · exact choose_other h ..
      · rfl
    · rfl
  · rfl

theorem fallbackReturn_other {r k : Route} (h : r ≠ k) (s : State) : (fallbackReturn r s).routes[k] = s.routes[k] := by
  unfold fallbackReturn
  dsimp only
  split
  · exact choose_other h ..
  · rfl

/-- The work on one route leaves every other route's record (R131). -/
theorem routeUpdate_other {r k : Route} (h : r ≠ k) (s : State) : (routeUpdate r s).routes[k] = s.routes[k] := by
  unfold routeUpdate countProbe
  rw [setRouteRec_get, if_neg h, fallbackReturn_other h, rerank_other h, installRoute_eq, routeInstalled_other h]

theorem rerank_standing (r : Route) (s : State) (k : Route) :
    (rerank r s).routes[k].standing = s.routes[k].standing := by
  unfold rerank
  dsimp only
  split
  · split
    · split
      · exact choose_standing ..
      · rfl
    · rfl
  · rfl

theorem fallbackReturn_standing (r : Route) (s : State) (k : Route) :
    (fallbackReturn r s).routes[k].standing = s.routes[k].standing := by
  unfold fallbackReturn
  dsimp only
  split
  · exact choose_standing ..
  · rfl

/-- What the work on a route makes of its record, its selection apart: a pending preload installed with the standby flags
of its paths, and the countdown one less (R122, R131). -/
def RouteRecord.worked (flags : Path → Bool) (x : RouteRecord) : RouteRecord :=
  if x.pending then
    { x with
      live := x.preload.map (fun p => (⟨p, flags p⟩ : Candidate)), interval := x.preloadInterval, cursor := 0
      countdown := x.preloadInterval - 1, pending := false }
  else { x with countdown := x.countdown - 1 }

/-- The standby flags of the paths. -/
def State.standbys (s : State) (p : Path) : Bool := s.paths[p].set.standby

theorem standbys_congr {s t : State} (h : t.paths = s.paths) : t.standbys = s.standbys := by
  unfold State.standbys
  rw [h]

theorem routeUpdate_standing (r : Route) (s : State) :
    (routeUpdate r s).routes[r].standing = s.routes[r].standing.worked s.standbys := by
  have hinstalled : (s.routeInstalled r).routes[r].standing =
      if s.routes[r].pending then (s.routes[r].installed s).standing else s.routes[r].standing := by
    unfold State.routeInstalled
    split
    · rw [choose_standing, setRouteRec_get, if_pos rfl]
    · rfl
  have hselected : (fallbackReturn r (rerank r (installRoute r s))).routes[r].standing = _ :=
    (fallbackReturn_standing ..).trans ((rerank_standing ..).trans ((installRoute_eq r s).symm ▸ hinstalled))
  unfold routeUpdate countProbe
  rw [setRouteRec_get, if_pos rfl]
  generalize fallbackReturn r (rerank r (installRoute r s)) = u at hselected
  have hcount : ({ u.routes[r] with countdown := u.routes[r].countdown - 1 } : RouteRecord).standing =
      { u.routes[r].standing with countdown := u.routes[r].standing.countdown - 1 } := rfl
  rw [hcount, hselected]
  by_cases hp : s.routes[r].pending = true
  · have hps : s.routes[r].standing.pending = true := hp
    rw [if_pos hp, RouteRecord.worked, if_pos hps]
    rfl
  · have hps : ¬ s.routes[r].standing.pending = true := hp
    rw [if_neg hp, RouteRecord.worked, if_neg hps]

/-- A route record without its selection, beside the standby flags of the paths. -/
def State.standingView (s : State) (k : Route) : RouteRecord × (Path → Bool) := (s.routes[k].standing, s.standbys)

theorem routeUpdate_standingView (k : Route) (s : State) :
    (routeUpdate k s).standingView k = ((s.standingView k).1.worked (s.standingView k).2, (s.standingView k).2) :=
  Prod.ext (routeUpdate_standing k s) (standbys_congr (routeUpdate_only k s).paths)

theorem routeUpdate_standingView_other {r k : Route} (h : r ≠ k) (s : State) :
    (routeUpdate r s).standingView k = s.standingView k :=
  Prod.ext (congrArg RouteRecord.standing (routeUpdate_other h s)) (standbys_congr (routeUpdate_only r s).paths)

/-- The Route Selector's work seen from one route (R131). -/
theorem routesUpdate_standingView (k : Route) (s : State) :
    (routesUpdate s).standingView k = ((s.standingView k).1.worked (s.standingView k).2, (s.standingView k).2) :=
  foldl_view_once (f := fun s r => routeUpdate r s) (view := fun s : State => s.standingView k)
    (g := fun v => (v.1.worked v.2, v.2)) (l := allRoutes) (k := k) (by decide) (mem_allRoutes k)
    (fun s => routeUpdate_standingView k s) (fun _ _ hr s => routeUpdate_standingView_other hr s) s

/-! ### A route in DARK with nothing to carry it -/

/-- A route with an empty live list, no preload to install, in DARK. -/
def RouteRecord.Bare (x : RouteRecord) : Prop := x.live = [] ∧ x.pending = false ∧ x.chosen = darkChoice

theorem routeUpdate_bare {k : Route} {s : State} (h : s.routes[k].Bare) :
    (routeUpdate k s).routes[k] = { s.routes[k] with countdown := s.routes[k].countdown - 1 } := by
  obtain ⟨-, hpending, hchosen⟩ := h
  have hinstall : installRoute k s = s := by
    unfold installRoute
    exact if_neg (hpending ▸ Bool.false_ne_true)
  have hrerank : rerank k s = s := by
    unfold rerank
    dsimp only
    rw [hchosen]
    rfl
  have hreturn : fallbackReturn k s = s := by
    unfold fallbackReturn
    exact if_neg fun h => Mode.noConfusion ((congrArg Choice.mode hchosen).symm.trans h.1)
  unfold routeUpdate countProbe
  rw [hinstall, hrerank, hreturn, setRouteRec_get, if_pos rfl]

theorem routesUpdate_bare {k : Route} {s : State} (h : s.routes[k].Bare) :
    (routesUpdate s).routes[k] = { s.routes[k] with countdown := s.routes[k].countdown - 1 } := by
  refine foldl_view_once_of (f := fun s r => routeUpdate r s) (view := fun s : State => s.routes[k])
    (g := fun x => { x with countdown := x.countdown - 1 }) (I := fun s => s.routes[k].Bare) (by decide) (mem_allRoutes k)
    (fun r s hs => ?_) (fun s hs => routeUpdate_bare hs) (fun r hr s _ => routeUpdate_other hr s) h
  by_cases hr : r = k
  · subst hr
    rw [routeUpdate_bare hs]
    exact hs
  · rw [routeUpdate_other hr]
    exact hs

/-! ### The tasks seen from a path -/

/-- A path record without its period counts. -/
def PathRecord.uncounted (x : PathRecord) : PathRecord := { x with period := zeroCounts }

theorem eq_of_uncounted {x y : PathRecord} {c : PathCounts} (h : x.uncounted = y.uncounted) (hc : x.period = c) :
    x = { y with period := c } := by
  calc x = { x.uncounted with period := x.period } := rfl
    _ = { y.uncounted with period := c } := by rw [h, hc]
    _ = { y with period := c } := rfl

theorem lossChecked_uncounted (x : PathRecord) : x.uncounted.lossChecked = x.lossChecked.uncounted := by
  unfold PathRecord.lossChecked
  rw [apply_ite PathRecord.uncounted, apply_ite PathRecord.uncounted]
  rfl

theorem countedDown_uncounted (stale : Nat) (x : PathRecord) :
    x.uncounted.countedDown stale = (x.countedDown stale).uncounted := by
  unfold PathRecord.countedDown
  rw [apply_ite PathRecord.uncounted, apply_ite PathRecord.uncounted, apply_ite PathRecord.uncounted]
  rfl

/-- The Path Monitor's work reads and moves no period count (R93). -/
theorem monitored_uncounted (stale : Nat) (x : PathRecord) :
    x.uncounted.monitored stale = (x.monitored stale).uncounted := by
  unfold PathRecord.monitored
  rw [lossChecked_uncounted, countedDown_uncounted]
  rfl

theorem lossChecked_fields (x : PathRecord) :
    x.lossChecked.set = x.set ∧ x.lossChecked.period = x.period ∧ x.lossChecked.updLosses = x.updLosses ∧
      x.lossChecked.tx = x.tx ∧ (x.lossChecked.state = .cut ↔ x.state = .cut) := by
  unfold PathRecord.lossChecked
  split
  next h =>
    refine ⟨rfl, rfl, rfl, rfl, ?_⟩
    rcases h.1 with h | h | h <;> simp [h]
  next =>
    split
    next h => simp [h.1]
    next => exact ⟨rfl, rfl, rfl, rfl, Iff.rfl⟩

theorem countedDown_fields (stale : Nat) (x : PathRecord) :
    (x.countedDown stale).set = x.set ∧ (x.countedDown stale).period = x.period ∧
      (x.countedDown stale).updLosses = x.updLosses ∧ (x.countedDown stale).tx = x.tx ∧
      ((x.countedDown stale).state = .cut ↔ x.state = .cut) := by
  unfold PathRecord.countedDown
  split
  next h =>
    split
    · split
      · simp [h]
      · exact ⟨rfl, rfl, rfl, rfl, Iff.rfl⟩
    · exact ⟨rfl, rfl, rfl, rfl, Iff.rfl⟩
  next => exact ⟨rfl, rfl, rfl, rfl, Iff.rfl⟩

/-- What the Path Monitor's work keeps, and what it makes of the losses and the TX view (R93, R109, R110). -/
theorem monitored_fields (stale : Nat) (x : PathRecord) :
    (x.monitored stale).set = x.set ∧ (x.monitored stale).period = x.period ∧
      ((x.monitored stale).state = .cut ↔ x.state = .cut) ∧ (x.monitored stale).lastLosses = x.updLosses ∧
      (x.monitored stale).updLosses = 0 ∧
      (x.monitored stale).tx = x.tx.map (fun v => ⟨v.delay, v.jitter, min 255 (v.age + 1)⟩) := by
  obtain ⟨hset, hperiod, hlosses, htx, hcut⟩ := lossChecked_fields x
  obtain ⟨hset', hperiod', hlosses', htx', hcut'⟩ := countedDown_fields stale x.lossChecked
  unfold PathRecord.monitored PathRecord.aged
  exact ⟨hset'.trans hset, hperiod'.trans hperiod, hcut'.trans hcut, hlosses'.trans hlosses, rfl, by rw [htx', htx]⟩

/-- A path record after the release of an update event, the line's level given (R159). -/
def PathRecord.releasedIf (line : Bool) (run : Nat) (x : PathRecord) : PathRecord :=
  if x.state = .cut ∧ x.set.autoRelease = true ∧ line = false then x.released run else x

theorem releasedIf_uncounted (line : Bool) (run : Nat) (x : PathRecord) :
    x.uncounted.releasedIf line run = (x.releasedIf line run).uncounted := by
  unfold PathRecord.releasedIf
  rw [apply_ite PathRecord.uncounted]
  rfl

theorem releasedIf_fields (line : Bool) (run : Nat) (x : PathRecord) :
    (x.releasedIf line run).set = x.set ∧ (x.releasedIf line run).period = x.period ∧
      (x.releasedIf line run).lastLosses = x.lastLosses ∧ (x.releasedIf line run).updLosses = x.updLosses ∧
      (x.releasedIf line run).tx = x.tx := by
  unfold PathRecord.releasedIf
  split <;> exact ⟨rfl, rfl, rfl, rfl, rfl⟩

theorem releasedIf_monitored_of_not {line : Bool} {run : Nat} {x : PathRecord} (stale : Nat)
    (h : ¬(x.state = .cut ∧ x.set.autoRelease = true ∧ line = false)) :
    (x.monitored stale).releasedIf line run = x.monitored stale := by
  obtain ⟨hset, -, hcut, -⟩ := monitored_fields stale x
  unfold PathRecord.releasedIf
  rw [if_neg]
  rwa [hcut, hset]

theorem releasedIf_monitored {line : Bool} {run : Nat} {x : PathRecord} (stale : Nat)
    (h : x.state = .cut ∧ x.set.autoRelease = true ∧ line = false) :
    (x.monitored stale).releasedIf line run = (x.monitored stale).released run := by
  obtain ⟨hset, -, hcut, -⟩ := monitored_fields stale x
  unfold PathRecord.releasedIf
  rw [if_pos]
  rwa [hcut, hset]

/-- The releases of an update event seen from one path (R159). -/
theorem autoRelease_get (p : Path) (s : State) :
    (autoRelease s).paths[p] = s.paths[p].releasedIf s.cut.level s.tb.runNs := by
  unfold autoRelease PathRecord.releasedIf
  cases hlevel : s.cut.level with
  | true =>
    rw [if_pos rfl, if_neg]
    simp
  | false =>
    rw [if_neg Bool.false_ne_true]
    have h := foldl_view_once (f := fun s q => releasePath q s) (view := fun s : State => (s.paths[p], s.tb.runNs))
      (g := fun v => (if v.1.state = .cut ∧ v.1.set.autoRelease = true then v.1.released v.2 else v.1, v.2))
      (l := allPaths) (by decide) (mem_allPaths p)
      (fun s => Prod.ext ((congrArg (fun v : Vector PathRecord 8 => v[p]) (releasePath_paths p s)).trans
        (Vector.getElem_set_self ..)) (congrArg TimeBase.runNs (releasePath_only p s).tb))
      (fun q _ hq s => Prod.ext ((congrArg (fun v : Vector PathRecord 8 => v[p]) (releasePath_paths q s)).trans
        (Vector.getElem_set_ne q.isLt p.isLt fun he => hq (Fin.ext he))) (congrArg TimeBase.runNs (releasePath_only q s).tb)) s
    refine (congrArg Prod.fst h).trans ?_
    simp

/-- What a task makes of the record of path `p`. -/
def PathRecord.tasked (stats line : Bool) (run stale : Nat) (p : Path) (x : PathRecord) : UpdateTask → PathRecord
  | .pathStats => { x with period := x.period.after stats }
  | .routes => x
  | .release => x.releasedIf line run
  | .monitor q => if q = p then x.monitored stale else x

/-- A task seen from one path. -/
theorem runTask_paths (stats : Bool) (t : UpdateTask) (p : Path) (s : State) :
    (runTask stats t s).paths[p] =
      s.paths[p].tasked stats s.cut.level s.tb.runNs s.estimator.reportStale p t := by
  cases t with
  | pathStats =>
    cases stats with
    | false => rfl
    | true =>
      have h : runTask true .pathStats s = pathStats s := rfl
      rw [h, pathStats_eq]
      exact Vector.getElem_map ..
  | routes =>
    cases stats with
    | false => exact congrArg (fun v : Vector PathRecord 8 => v[p]) (routesUpdate_only s).paths
    | true =>
      have hstats : (routeStats s).paths = s.paths := by
        rw [routeStats_eq]
        exact (reported_only ..).paths
      exact congrArg (fun v : Vector PathRecord 8 => v[p]) ((routesUpdate_only (routeStats s)).paths.trans hstats)
  | release => exact autoRelease_get p s
  | monitor q =>
    refine (congrArg (fun v : Vector PathRecord 8 => v[p]) (monitorUpdate_paths q s)).trans ?_
    unfold PathRecord.tasked
    dsimp only
    split
    next h =>
      subst h
      exact Vector.getElem_set_self ..
    next h => exact Vector.getElem_set_ne q.isLt p.isLt fun he => h (Fin.ext he)

end Sys2Proof.Machine

/-! ## Update events, in whatever order their work is taken

The parts of an update event put together (R11, R32, R93, R99, R122, R131, R159; log 7). -/

namespace Sys2Proof.Machine

/-! ### One path -/

/-- A path record without its period counts, beside what the tasks read of the rest of the state. -/
def State.pathView (s : State) (p : Path) : PathRecord × Bool × Nat × Nat :=
  (s.paths[p].uncounted, s.cut.level, s.tb.runNs, s.estimator.reportStale)

theorem runTask_pathView (stats : Bool) (t : UpdateTask) (p : Path) (s : State) :
    (runTask stats t s).pathView p =
      ((s.paths[p].tasked stats s.cut.level s.tb.runNs s.estimator.reportStale p t).uncounted, (s.pathView p).2) := by
  have only := runTask_only stats t s
  unfold State.pathView
  rw [runTask_paths, only.cut, only.tb, only.estimator]

/-- The release seen from a path, its counts apart (R159). -/
theorem runTask_release_pathView (stats : Bool) (p : Path) (s : State) :
    (runTask stats .release s).pathView p =
      ((s.pathView p).1.releasedIf (s.pathView p).2.1 (s.pathView p).2.2.1, (s.pathView p).2) :=
  (runTask_pathView ..).trans (Prod.ext (releasedIf_uncounted ..).symm rfl)

/-- The Path Monitor's work seen from its path, the counts apart (R93). -/
theorem runTask_monitor_pathView (stats : Bool) (p : Path) (s : State) :
    (runTask stats (.monitor p) s).pathView p = ((s.pathView p).1.monitored (s.pathView p).2.2.2, (s.pathView p).2) := by
  refine (runTask_pathView ..).trans (Prod.ext ?_ rfl)
  unfold PathRecord.tasked
  dsimp only
  rw [if_pos rfl]
  exact (monitored_uncounted ..).symm

theorem runTask_other_pathView (stats : Bool) {t : UpdateTask} {p : Path} (hrelease : t ≠ .release)
    (hmonitor : t ≠ .monitor p) (s : State) : (runTask stats t s).pathView p = s.pathView p := by
  refine (runTask_pathView ..).trans (Prod.ext ?_ rfl)
  cases t with
  | pathStats | routes => rfl
  | release => exact absurd rfl hrelease
  | monitor q =>
    unfold PathRecord.tasked
    dsimp only
    rw [if_neg fun h => hmonitor (congrArg UpdateTask.monitor h)]
    rfl

/-- The tasks move the period counts of a path once (R99). -/
theorem runTask_period (stats : Bool) (t : UpdateTask) (p : Path) (s : State) :
    (runTask stats t s).paths[p].period =
      if t = .pathStats then s.paths[p].period.after stats else s.paths[p].period := by
  rw [runTask_paths]
  cases t with
  | pathStats => rfl
  | routes => rfl
  | release => exact (releasedIf_fields ..).2.1
  | monitor q =>
    unfold PathRecord.tasked
    dsimp only
    split
    · exact (monitored_fields ..).2.1
    · rfl

/-- A path record after an update event: released and monitored in one order or the other (R93, R99, R159). -/
theorem updateEvent_path (stats : Bool) (wish : List UpdateTask) (s : State) (p : Path) :
    let x := s.paths[p]
    let counts := x.period.after stats
    let stale := s.estimator.reportStale
    (updateEvent stats wish s).paths[p] =
        { (x.releasedIf s.cut.level s.tb.runNs).monitored stale with period := counts } ∨
      (updateEvent stats wish s).paths[p] =
        { (x.monitored stale).releasedIf s.cut.level s.tb.runNs with period := counts } := by
  obtain ⟨hnodup, hall, -⟩ := updateSchedule_whole wish
  have hperiod := foldl_view_once (f := fun s t => runTask stats t s) (view := fun s : State => s.paths[p].period)
    (g := fun c => c.after stats) (k := .pathStats) hnodup (hall _) (fun s => (runTask_period ..).trans (if_pos rfl))
    (fun t _ ht s => (runTask_period ..).trans (if_neg ht)) s.rearmed
  have hrecord := foldl_view_twice (f := fun s t => runTask stats t s) (view := fun s : State => s.pathView p)
    (g := fun v => (v.1.releasedIf v.2.1 v.2.2.1, v.2)) (h := fun v => (v.1.monitored v.2.2.2, v.2)) (j := .release)
    (k := .monitor p) hnodup (hall _) (hall _) UpdateTask.noConfusion (fun s => runTask_release_pathView stats p s)
    (fun s => runTask_monitor_pathView stats p s)
    (fun t _ hrelease hmonitor s => runTask_other_pathView stats hrelease hmonitor s) s.rearmed
  rw [updateEvent_eq]
  refine hrecord.imp (fun h => eq_of_uncounted ((congrArg Prod.fst h).trans ?_) hperiod)
    (fun h => eq_of_uncounted ((congrArg Prod.fst h).trans ?_) hperiod)
  · exact (congrArg (PathRecord.monitored _) (releasedIf_uncounted ..)).trans (monitored_uncounted ..)
  · exact (congrArg (PathRecord.releasedIf _ _) (monitored_uncounted ..)).trans (releasedIf_uncounted ..)

/-! ### One route -/

theorem runTask_standbys (stats : Bool) (t : UpdateTask) (s : State) : (runTask stats t s).standbys = s.standbys := by
  funext p
  unfold State.standbys
  rw [runTask_paths]
  cases t with
  | pathStats | routes => rfl
  | release => exact congrArg PathSettings.standby (releasedIf_fields ..).1
  | monitor q =>
    unfold PathRecord.tasked
    dsimp only
    split
    · exact congrArg PathSettings.standby (monitored_fields ..).1
    · rfl

theorem routeStats_get (k : Route) (s : State) : (routeStats s).routes[k] = { s.routes[k] with modeChanges := 0 } := by
  rw [routeStats_eq]
  exact Vector.getElem_map ..

theorem routeStats_paths (s : State) : (routeStats s).paths = s.paths := by
  rw [routeStats_eq]
  exact (reported_only ..).paths

theorem routeStats_standingView (k : Route) (s : State) : (routeStats s).standingView k = s.standingView k :=
  Prod.ext ((congrArg RouteRecord.standing (routeStats_get k s)).trans rfl) (standbys_congr (routeStats_paths s))

/-- The Route Selector's task seen from one route: its counts restart at a stats event, then its work (R131). -/
theorem runTask_routes_standingView (stats : Bool) (k : Route) (s : State) :
    (runTask stats .routes s).standingView k = ((s.standingView k).1.worked (s.standingView k).2, (s.standingView k).2) := by
  cases stats with
  | false => exact routesUpdate_standingView k s
  | true =>
    have h := routesUpdate_standingView k (routeStats s)
    rw [routeStats_standingView] at h
    exact h

theorem runTask_other_standingView (stats : Bool) {t : UpdateTask} (h : t ≠ .routes) (k : Route) (s : State) :
    (runTask stats t s).standingView k = s.standingView k :=
  Prod.ext ((runTask_selectsOnly stats h s).standing k) (runTask_standbys stats t s)

/-- A route record after an update event, its selection apart (R122, R131). -/
theorem updateEvent_standing (stats : Bool) (wish : List UpdateTask) (s : State) (k : Route) :
    (updateEvent stats wish s).routes[k].standing = s.routes[k].standing.worked s.standbys := by
  obtain ⟨hnodup, hall, -⟩ := updateSchedule_whole wish
  have h := foldl_view_once (f := fun s t => runTask stats t s) (view := fun s : State => s.standingView k)
    (g := fun v => (v.1.worked v.2, v.2)) (k := .routes) hnodup (hall _)
    (fun s => runTask_routes_standingView stats k s) (fun t _ ht s => runTask_other_standingView stats ht k s) s.rearmed
  rw [updateEvent_eq]
  exact congrArg Prod.fst h

/-- The Route Selector's task leaves a bare route bare, its changes restarted at a stats event (R131). -/
theorem runTask_routes_bare (stats : Bool) {k : Route} {s : State} (h : s.routes[k].Bare) :
    (runTask stats .routes s).routes[k] =
      { s.routes[k] with
        countdown := s.routes[k].countdown - 1, modeChanges := if stats then 0 else s.routes[k].modeChanges } := by
  cases stats with
  | false => exact routesUpdate_bare h
  | true =>
    refine (routesUpdate_bare (s := routeStats s) ?_).trans ?_
    · rw [routeStats_get]
      exact h
    · rw [routeStats_get]
      rfl

theorem runTask_bare (stats : Bool) (t : UpdateTask) {k : Route} {s : State} (h : s.routes[k].Bare) :
    (runTask stats t s).routes[k].Bare := by
  by_cases ht : t = .routes
  · subst ht
    rw [runTask_routes_bare stats h]
    exact h
  · rw [(runTask_selectsOnly stats ht s).unnamed k h.1]
    exact h

/-- The changes of a bare route count on, or restart at a stats event (R131). -/
theorem updateEvent_bare (stats : Bool) (wish : List UpdateTask) {s : State} {k : Route} (h : s.routes[k].Bare) :
    (updateEvent stats wish s).routes[k].modeChanges = if stats then 0 else s.routes[k].modeChanges := by
  obtain ⟨hnodup, hall, -⟩ := updateSchedule_whole wish
  have hroute := foldl_view_once_of (f := fun s t => runTask stats t s) (view := fun s : State => s.routes[k])
    (g := fun x => { x with countdown := x.countdown - 1, modeChanges := if stats then 0 else x.modeChanges })
    (I := fun s => s.routes[k].Bare) (k := .routes) hnodup (hall _) (fun t s hs => runTask_bare stats t hs)
    (fun s hs => runTask_routes_bare stats hs)
    (fun t ht s hs => (runTask_selectsOnly stats ht s).unnamed k hs.1) (s := s.rearmed) h
  rw [updateEvent_eq]
  exact congrArg RouteRecord.modeChanges hroute

/-! ### Steering records, merger records and windows -/

theorem runTask_routes_steer (stats : Bool) (k : Route) (s : State) :
    ((runTask stats .routes s).steer[k], (runTask stats .routes s).mergers[k]) =
      if stats then
        ({ s.steer[k] with commits := 0, darkDiscards := 0, abandoned := 0, mirrored := 0 },
          { s.mergers[k] with stale := 0, resyncs := 0 })
      else (s.steer[k], s.mergers[k]) := by
  cases stats with
  | false =>
    have only := routesUpdate_only s
    exact congrArg₂ (fun (v : Vector SteerRoute 4) (m : Vector MergeRecord 4) => (v[k], m[k])) only.steer only.mergers
  | true =>
    have only := routesUpdate_only (routeStats s)
    refine (congrArg₂ (fun (v : Vector SteerRoute 4) (m : Vector MergeRecord 4) => (v[k], m[k])) only.steer
      only.mergers).trans ?_
    rw [routeStats_eq]
    exact Prod.ext (Vector.getElem_map ..) (Vector.getElem_map ..)

theorem runTask_other_only (stats : Bool) {t : UpdateTask} (h : t ≠ .routes) (s : State) :
    OnlyHealth s (runTask stats t s) := by
  cases t with
  | pathStats =>
    cases stats with
    | false => exact .refl s
    | true => exact pathStats_only s
  | routes => exact absurd rfl h
  | release => exact autoRelease_only s
  | monitor p => exact monitorUpdate_only p s

/-- The counts of the Slot Steering and of the Arrival Merger after an update event (R32, R150). -/
theorem updateEvent_steer (stats : Bool) (wish : List UpdateTask) (s : State) (k : Route) :
    ((updateEvent stats wish s).steer[k], (updateEvent stats wish s).mergers[k]) =
      if stats then
        ({ s.steer[k] with commits := 0, darkDiscards := 0, abandoned := 0, mirrored := 0, darkReported := false },
          { s.mergers[k] with stale := 0, resyncs := 0 })
      else ({ s.steer[k] with darkReported := false }, s.mergers[k]) := by
  obtain ⟨hnodup, hall, -⟩ := updateSchedule_whole wish
  have h := foldl_view_once (f := fun s t => runTask stats t s) (view := fun s : State => (s.steer[k], s.mergers[k]))
    (g := fun v =>
      if stats then
        ({ v.1 with commits := 0, darkDiscards := 0, abandoned := 0, mirrored := 0 }, { v.2 with stale := 0, resyncs := 0 })
      else v) (k := .routes) hnodup (hall _) (fun s => runTask_routes_steer stats k s)
    (fun t _ ht s => congrArg₂ (fun (v : Vector SteerRoute 4) (m : Vector MergeRecord 4) => (v[k], m[k]))
      (runTask_other_only stats ht s).steer (runTask_other_only stats ht s).mergers) s.rearmed
  have hrearmed : s.rearmed.steer[k] = { s.steer[k] with darkReported := false } := Vector.getElem_map ..
  rw [updateEvent_eq]
  refine h.trans ?_
  dsimp only
  rw [hrearmed]
  rfl

theorem runTask_windows (stats : Bool) (t : UpdateTask) (s : State) : (runTask stats t s).windows = s.windows := by
  by_cases ht : t = .routes
  · subst ht
    cases stats with
    | false => exact (routesUpdate_only s).windows
    | true =>
      refine (routesUpdate_only (routeStats s)).windows.trans ?_
      rw [routeStats_eq]
      exact (reported_only ..).windows
  · exact (runTask_other_only stats ht s).windows

theorem updateEvent_windows (stats : Bool) (wish : List UpdateTask) (s : State) (i : Fin 8) :
    (updateEvent stats wish s).windows[i] =
      if s.windows[i].pending then ⟨s.windows[i].preload, s.windows[i].preload, false⟩ else s.windows[i] := by
  rw [updateEvent_eq]
  have h := foldl_view_skip (f := fun s t => runTask stats t s) (view := fun s : State => s.windows) (l := updateSchedule wish)
    (fun t _ s => runTask_windows stats t s) s.rearmed
  exact (congrArg (fun v : Vector WindowEntry 8 => v[i]) h).trans (Vector.getElem_map ..)

/-! ### The pieces of the work -/

/-- Entering a state the record has just been given reads no other record (R112). -/
theorem rollPath_ageFarEnd (p : Path) (s : State) :
    rollPath p (ageFarEnd p s) = s.setPathRec p (s.paths[p].aged s.estimator.reportStale) := by
  have h := rollPath_ageFarEnd_paths p s
  have hframe : rollPath p (ageFarEnd p s) = { s with paths := (rollPath p (ageFarEnd p s)).paths } := rfl
  rw [hframe, h]
  rfl

theorem countProbation_eq (p : Path) (s : State) :
    countProbation p s =
      (let y : PathRecord := { s.paths[p] with countdown := s.paths[p].countdown - 1 }
       if y.state ≠ .probation then s
       else if y.countdown ≠ 0 then s.setPathRec p y
       else if y.isProven s.estimator.reportStale = true then enterState p .up .probationPassed (s.setPathRec p y)
       else s.setPathRec p { y with countdown := y.hs.probation }) := by
  unfold countProbation countDown
  dsimp only
  by_cases hstate : s.paths[p].state = .probation
  · rw [if_pos hstate, if_neg (not_not.2 hstate)]
    by_cases hcount : s.paths[p].countdown ≤ 1
    · rw [if_pos hcount, if_neg (by omega)]
      unfold judgeProbation
      rw [probationPassed_eq, setPathRec_get, if_pos rfl]
      have htwice : ∀ x y : PathRecord, (s.setPathRec p x).setPathRec p y = s.setPathRec p y := fun x y =>
        congrArg (fun v => ({ s with paths := v } : State)) (Vector.set_set ..)
      rw [htwice]
      rfl
    · rw [if_neg hcount, if_pos (by omega)]
  · rw [if_neg hstate, if_pos hstate]

theorem lossCheck_eq (p : Path) (s : State) :
    lossCheck p s =
      (let x := s.paths[p]
       if (x.state = .up ∨ x.state = .fading ∨ x.state = .probation) ∧ x.hs.lossDown ≤ x.updLosses then
         enterState p .down .lossDown s
       else if x.state = .up ∧ x.hs.lossFade ≤ x.updLosses then enterState p .fading .lossFade s
       else s) := by
  unfold lossCheck judgeLosses enterIf
  generalize s.paths[p] = x
  dsimp only
  cases hstate : x.state with
  | up =>
    by_cases hdown : x.hs.lossDown ≤ x.updLosses
    · simp [hdown]
    · by_cases hfade : x.hs.lossFade ≤ x.updLosses <;> simp [hdown, hfade]
  | fading | probation => by_cases hdown : x.hs.lossDown ≤ x.updLosses <;> simp [hdown]
  | down | cut | disabled => simp

/-- The Path Monitor's work on one path (R93, R109 to R111). -/
theorem monitorUpdate_eq (p : Path) (s : State) : monitorUpdate p s = s.pathWorked p := by
  unfold monitorUpdate
  rw [rollPath_ageFarEnd, (countProbation_only p _).estimator, (lossCheck_only p s).estimator, countProbation_eq,
    (lossCheck_only p s).estimator, lossCheck_eq]
  rfl

theorem upCandidates_isEmpty (s : State) (live : List Candidate) :
    (s.upCandidates live false none).isEmpty = false ↔
      live.any (fun c => c.standby == false && s.paths[c.path].state == .up) = true := by
  unfold State.upCandidates
  rw [List.isEmpty_eq_false_iff, Ne, List.map_eq_nil_iff, List.filter_eq_nil_iff, List.any_eq_true]
  simp

/-- The Route Selector's work on one route (R131, R132, R135). -/
theorem routeUpdate_eq (r : Route) (s : State) : routeUpdate r s = s.routeWorked r := by
  unfold routeUpdate State.routeWorked
  rw [installRoute_eq]
  generalize rerank r (s.routeInstalled r) = u
  have hreturn : fallbackReturn r u = if u.routes[r].chosen.mode = .fallback ∧
      u.routes[r].live.any (fun c => c.standby == false && u.paths[c.path].state == .up) = true then
      choose r .fallbackReturn none (u.fullSelection u.routes[r]) u else u := by
    unfold fallbackReturn
    exact if_congr (and_congr_right' (upCandidates_isEmpty ..)) rfl rfl
  rw [hreturn]
  rfl

/-- The releases of an update event (R159). -/
theorem autoRelease_eq (s : State) : autoRelease s = allPaths.foldl State.pathReleased s := by
  have hstep : ∀ (s : State) (p : Path), s.pathReleased p = if s.cut.level = true then s else releasePath p s := by
    intro s p
    unfold State.pathReleased releasePath
    cases hlevel : s.cut.level with
    | true =>
      rw [if_pos rfl, if_neg]
      simp
    | false =>
      rw [if_neg Bool.false_ne_true]
      by_cases h : s.paths[p].state = .cut ∧ s.paths[p].set.autoRelease = true
      · rw [if_pos h, if_pos ⟨h.1, h.2, rfl⟩]
        rfl
      · rw [if_neg h, if_neg fun k => h ⟨k.1, k.2.1⟩]
        rfl
  have hfold : ∀ (ps : List Path) (s : State),
      ps.foldl State.pathReleased s = if s.cut.level = true then s else ps.foldl (fun s p => releasePath p s) s := by
    intro ps
    induction ps with
    | nil => exact fun s => (ite_self s).symm
    | cons p ps ih =>
      intro s
      rw [List.foldl_cons, List.foldl_cons, ih, hstep]
      by_cases hlevel : s.cut.level = true
      · rw [if_pos hlevel, if_pos hlevel, if_pos hlevel]
      · rw [if_neg hlevel, if_neg hlevel, (releasePath_only p s).cut, if_neg hlevel]
  rw [hfold]
  rfl

/-! ### The obligation -/

theorem standing_fields {x y : RouteRecord} (h : x.standing = y.standing) :
    x.preload = y.preload ∧ x.preloadInterval = y.preloadInterval ∧ x.pending = y.pending ∧ x.live = y.live ∧
      x.interval = y.interval ∧ x.cursor = y.cursor ∧ x.countdown = y.countdown := by
  unfold RouteRecord.standing at h
  obtain ⟨hlive, hpreload, hpreloadInterval, hpending, -, hinterval, hcountdown, hcursor, -⟩ := RouteRecord.mk.inj h
  exact ⟨hpreload, hpreloadInterval, hpending, hlive, hinterval, hcursor, hcountdown⟩

theorem worked_standing (flags : Path → Bool) (x : RouteRecord) :
    x.standing.worked flags = (x.worked flags).standing := by
  unfold RouteRecord.worked
  rw [apply_ite RouteRecord.standing]
  rfl

/-- What an update event makes of a route's lists (R122, R131). -/
theorem updateEvent_route (stats : Bool) (wish : List UpdateTask) (s : State) (r : Route) :
    let x := s.routes[r]
    let u := updateEvent stats wish s
    u.routes[r].preload = x.preload ∧ u.routes[r].preloadInterval = x.preloadInterval ∧ u.routes[r].pending = false ∧
      (x.pending = true →
        u.routes[r].live = x.preload.map (fun p => (⟨p, s.paths[p].set.standby⟩ : Candidate)) ∧
          u.routes[r].interval = x.preloadInterval ∧ u.routes[r].cursor = 0 ∧
          u.routes[r].countdown = x.preloadInterval - 1) ∧
      (x.pending = false →
        u.routes[r].live = x.live ∧ u.routes[r].interval = x.interval ∧ u.routes[r].cursor = x.cursor ∧
          u.routes[r].countdown = x.countdown - 1) := by
  intro x u
  obtain ⟨hpre, hpreint, hpend, hlive, hint, hcursor, hcount⟩ :=
    standing_fields ((updateEvent_standing stats wish s r).trans (worked_standing ..))
  change u.routes[r].preload = (x.worked s.standbys).preload at hpre
  change u.routes[r].preloadInterval = (x.worked s.standbys).preloadInterval at hpreint
  change u.routes[r].pending = (x.worked s.standbys).pending at hpend
  change u.routes[r].live = (x.worked s.standbys).live at hlive
  change u.routes[r].interval = (x.worked s.standbys).interval at hint
  change u.routes[r].cursor = (x.worked s.standbys).cursor at hcursor
  change u.routes[r].countdown = (x.worked s.standbys).countdown at hcount
  rw [hpre, hpreint, hpend, hlive, hint, hcursor, hcount]
  unfold RouteRecord.worked
  cases hp : x.pending with
  | true =>
    rw [if_pos rfl]
    exact ⟨rfl, rfl, rfl, fun _ => ⟨rfl, rfl, rfl, rfl⟩, fun h => Bool.noConfusion h⟩
  | false =>
    rw [if_neg Bool.false_ne_true]
    exact ⟨rfl, rfl, rfl, fun h => Bool.noConfusion h, fun _ => ⟨rfl, rfl, rfl, rfl⟩⟩

/-- What an update event makes of a path's losses and its TX view, in either order of the release (R93). -/
theorem updateEvent_losses (stats : Bool) (wish : List UpdateTask) (s : State) (p : Path) :
    let x := s.paths[p]
    let y := (updateEvent stats wish s).paths[p]
    y.lastLosses = x.updLosses ∧ y.updLosses = 0 ∧ y.tx = x.tx.map (fun v => ⟨v.delay, v.jitter, min 255 (v.age + 1)⟩) := by
  intro x y
  obtain ⟨-, -, -, hrlast, hrlosses, hrtx⟩ :=
    monitored_fields s.estimator.reportStale (x.releasedIf s.cut.level s.tb.runNs)
  obtain ⟨-, -, -, hlast, hlosses, htx⟩ := monitored_fields s.estimator.reportStale x
  obtain ⟨-, -, -, hxlosses, hxtx⟩ := releasedIf_fields s.cut.level s.tb.runNs x
  obtain ⟨-, -, hmlast, hmlosses, hmtx⟩ :=
    releasedIf_fields s.cut.level s.tb.runNs (x.monitored s.estimator.reportStale)
  rcases updateEvent_path stats wish s p with h | h
  · exact ⟨(congrArg PathRecord.lastLosses h).trans (hrlast.trans hxlosses), (congrArg PathRecord.updLosses h).trans hrlosses,
      (congrArg PathRecord.tx h).trans (hrtx.trans (by rw [hxtx]))⟩
  · exact ⟨(congrArg PathRecord.lastLosses h).trans (hmlast.trans hlast),
      (congrArg PathRecord.updLosses h).trans (hmlosses.trans hlosses), (congrArg PathRecord.tx h).trans (hmtx.trans htx)⟩

/-- Without a release the order of the work makes no difference to a path (R93, R159). -/
theorem updateEvent_path_of_not {stats : Bool} {wish : List UpdateTask} {s : State} {p : Path}
    (h : ¬(s.paths[p].state = .cut ∧ s.paths[p].set.autoRelease = true ∧ s.cut.level = false)) :
    (updateEvent stats wish s).paths[p] =
      { s.paths[p].monitored s.estimator.reportStale with period := s.paths[p].period.after stats } := by
  have hreleased : s.paths[p].releasedIf s.cut.level s.tb.runNs = s.paths[p] := if_neg h
  have hmonitored := releasedIf_monitored_of_not (run := s.tb.runNs) s.estimator.reportStale h
  rcases updateEvent_path stats wish s p with hpath | hpath
  · rw [hpath, hreleased]
  · rw [hpath, hmonitored]

/-- Settles O51: each part of the state is moved by one task of the schedule, or by two that may change places. -/
theorem updateEventsInstallAgeAndRestart : Obligations.UpdateEventsInstallAgeAndRestart := by
  refine ⟨fun stats order s => ?parts, fun stats wish s => ?schedule, fun stats s => ?tasks⟩
  case parts =>
    refine ⟨updateEvent_windows stats order s, updateEvent_route stats order s, fun p => ⟨updateEvent_path_of_not,
      fun hrelease => ?_, updateEvent_losses stats order s p⟩, fun r => ?_, updateEvent_only stats order s⟩
    · have hreleased : s.paths[p].releasedIf s.cut.level s.tb.runNs = s.paths[p].released s.tb.runNs := if_pos hrelease
      have hmonitored := releasedIf_monitored (run := s.tb.runNs) s.estimator.reportStale hrelease
      exact (updateEvent_path stats order s p).imp (fun h => h.trans (congrArg (fun y : PathRecord =>
        { y.monitored s.estimator.reportStale with period := s.paths[p].period.after stats }) hreleased))
        (fun h => h.trans (congrArg (fun y : PathRecord => { y with period := s.paths[p].period.after stats }) hmonitored))
    · have hsteer := updateEvent_steer stats order s r
      refine ⟨(congrArg Prod.fst hsteer).trans (apply_ite Prod.fst ..), (congrArg Prod.snd hsteer).trans (apply_ite Prod.snd ..),
        fun hlive hpending hchosen => updateEvent_bare stats order ⟨hlive, hpending, hchosen⟩⟩
  case schedule =>
    obtain ⟨-, -, hhead⟩ := updateSchedule_whole wish
    exact ⟨_, updateSchedule_perm wish, hhead, updateEvent_eq stats wish s⟩
  case tasks =>
    have hroutes : ∀ u : State, routesUpdate u = (((u.routeWorked 0).routeWorked 1).routeWorked 2).routeWorked 3 := by
      intro u
      rw [← routeUpdate_eq, ← routeUpdate_eq, ← routeUpdate_eq, ← routeUpdate_eq]
      rfl
    exact ⟨rfl, hroutes _, autoRelease_eq s, fun p => monitorUpdate_eq p s⟩

end Sys2Proof.Machine

/-! ## Probations that end and far-end conditions that lapse

The two rows that take the update event which brings them about (R110, R111; logs 2, 3 and 30). -/

namespace Sys2Proof.Machine

/-- What a due update event makes of a path that it does not release, and what it leaves (R93, R99). -/
theorem takeBoundary_update {s : State} (h : s.updateDue) (p : Path) :
    let t := takeBoundary s.quiet
    (¬(s.paths[p].state = .cut ∧ s.paths[p].set.autoRelease = true ∧ s.cut.level = false) →
      t.paths[p] =
        { s.paths[p].monitored s.estimator.reportStale with
          period := s.paths[p].period.after (decide (s.tb.stats = 1)) }) ∧
      t = { s with
        bus := [], choice := s.choice + 1, tb := t.tb, windows := t.windows, steer := t.steer, paths := t.paths
        routes := t.routes, mergers := t.mergers, rings := t.rings, writeList := t.writeList } := by
  intro t
  have htake : t = updateEvent (decide (s.tb.stats = 1)) (Config.updateOrder s.choice)
      { s.quiet with
        choice := s.choice + 1
        tb :=
          { s.tb with
            boundaryDue := false, repetition := s.tb.r, stats := if s.tb.stats = 1 then s.tb.s else s.tb.stats - 1 } } :=
    takeBoundary_updates (s := s.quiet) h.1 h.2
  generalize t = v at htake
  subst htake
  refine ⟨fun hkeep => updateEvent_path_of_not hkeep, ?_⟩
  have only := updateEvent_only (decide (s.tb.stats = 1)) (Config.updateOrder s.choice)
    { s.quiet with
      choice := s.choice + 1
      tb :=
        { s.tb with
          boundaryDue := false, repetition := s.tb.r, stats := if s.tb.stats = 1 then s.tb.s else s.tb.stats - 1 } }
  generalize updateEvent (decide (s.tb.stats = 1)) (Config.updateOrder s.choice) _ = u at only
  obtain ⟨windows, steer, paths, routes, mergers, rings, list, rfl⟩ :
      ∃ windows steer paths routes mergers rings list, u =
        { s.quiet with
          choice := s.choice + 1
          tb :=
            { s.tb with
              boundaryDue := false, repetition := s.tb.r, stats := if s.tb.stats = 1 then s.tb.s else s.tb.stats - 1 }
          windows := windows, steer := steer, paths := paths, routes := routes, mergers := mergers, rings := rings
          writeList := list } := ⟨_, _, _, _, _, _, _, only⟩
  rfl

/-! ### The end of a probation countdown -/

/-- A countdown of 1 ends with the due update event (R110, log 3). -/
theorem takeCountdownEnd_due {p : Path} {s : State} (hstate : s.paths[p].state = .probation)
    (hcount : s.paths[p].countdown = 1) (hdue : s.updateDue) : takeCountdownEnd p s = takeBoundary s := by
  unfold takeCountdownEnd
  rw [if_pos hstate, if_neg (by omega), if_pos ⟨(makesUpdate_iff _).2 hdue, hcount⟩]

/-- The row whose event is not due changes nothing (log 2). -/
theorem takeCountdownEnd_waits {p : Path} {s : State}
    (h : s.paths[p].state ≠ .probation ∨ 2 ≤ s.paths[p].countdown ∨ s.paths[p].countdown = 1 ∧ ¬ s.updateDue) :
    takeCountdownEnd p s = s := by
  unfold takeCountdownEnd
  by_cases hstate : s.paths[p].state = .probation
  · rw [if_pos hstate, if_neg, if_neg]
    · rintro ⟨hdue, hone⟩
      rcases h with h | h | h
      · exact h hstate
      · omega
      · exact h.2 ((makesUpdate_iff _).1 hdue)
    · rcases h with h | h | h
      · exact absurd hstate h
      · omega
      · omega
  · rw [if_neg hstate]

/-- What a countdown of 1 comes to at an update event (R109, R110). -/
theorem monitored_countdownEnd {x : PathRecord} {stale : Nat} (hstate : x.state = .probation) (hcount : x.countdown = 1) :
    (x.hs.lossDown ≤ x.updLosses → (x.monitored stale).state = .down ∧ (x.monitored stale).lastCause = 9) ∧
      (x.updLosses < x.hs.lossDown → x.isProven stale = true →
        (x.monitored stale).state = .up ∧ (x.monitored stale).lastCause = 14) ∧
      (x.updLosses < x.hs.lossDown → x.isProven stale = false →
        (x.monitored stale).state = .probation ∧ (x.monitored stale).countdown = x.hs.probation ∧
          (x.monitored stale).lastCause = x.lastCause) := by
  have hstays : x.updLosses < x.hs.lossDown → x.lossChecked = x := by
    intro hfew
    unfold PathRecord.lossChecked
    rw [if_neg fun h => absurd h.2 (not_le.2 hfew), if_neg fun h => by simp [hstate] at h]
  unfold PathRecord.monitored PathRecord.aged
  dsimp only
  refine ⟨fun hmany => ?_, fun hfew hproven => ?_, fun hfew hproven => ?_⟩
  · unfold PathRecord.lossChecked
    rw [if_pos ⟨.inr (.inr hstate), hmany⟩]
    exact ⟨rfl, rfl⟩
  · rw [hstays hfew, PathRecord.countedDown, if_pos hstate, if_pos (by omega), if_pos hproven]
    exact ⟨rfl, rfl⟩
  · rw [hstays hfew, PathRecord.countedDown, if_pos hstate, if_pos (by omega),
      if_neg (hproven ▸ Bool.false_ne_true)]
    exact ⟨hstate, rfl, rfl⟩

theorem isProven_iff (stale : Nat) (x : PathRecord) :
    x.isProven stale = true ↔ x.hs.minSamples ≤ x.rxCount ∨ ∃ v, x.tx = some v ∧ v.age ≤ stale := by
  unfold PathRecord.isProven
  cases x.tx <;> simp

/-! ### The lapse of a far-end condition -/

theorem lapsesIn_iff {later age : Nat} {e : Estimator} {x : PathRecord} (h : x.farEnd = some age) :
    lapsesIn later e x.farEnd = true ↔ e.reportStale < min 255 (age + later) ∨ 255 ≤ age + later := by
  unfold lapsesIn lapses
  rw [h]
  dsimp only
  rw [sat8_eq]
  simp

theorem lapsesIn_none {later : Nat} {e : Estimator} {x : PathRecord} (h : x.farEnd = none) :
    lapsesIn later e x.farEnd = false := by
  unfold lapsesIn
  rw [h]

/-- A condition old enough clears at once (R111, log 30). -/
theorem takeLapse_now {p : Path} {s : State} (h : lapsesIn 0 s.estimator s.paths[p].farEnd = true) :
    takeLapse p s = s.setPathRec p { s.paths[p] with farEnd := none } := if_pos h

/-- One that the due update event makes old enough lapses with that event (R111, log 3). -/
theorem takeLapse_due {p : Path} {s : State} (hnow : ¬ lapsesIn 0 s.estimator s.paths[p].farEnd = true)
    (hnext : lapsesIn 1 s.estimator s.paths[p].farEnd = true) (hdue : s.updateDue) : takeLapse p s = takeBoundary s := by
  unfold takeLapse
  rw [if_neg hnow, if_pos ⟨(makesUpdate_iff _).2 hdue, hnext⟩]

theorem takeLapse_waits {p : Path} {s : State} (hnow : ¬ lapsesIn 0 s.estimator s.paths[p].farEnd = true)
    (hnext : s.updateDue → ¬ lapsesIn 1 s.estimator s.paths[p].farEnd = true) : takeLapse p s = s := by
  unfold takeLapse
  rw [if_neg hnow, if_neg fun h => hnext ((makesUpdate_iff _).1 h.1) h.2]

/-- The far-end condition of a path after the Path Monitor's work: what the loss check and the countdown leave, aged
(R111). -/
theorem monitored_farEnd (stale : Nat) (x : PathRecord) :
    (x.monitored stale).farEnd =
      (x.farEnd.map (fun age => min 255 (age + 1))).filter (fun age => decide (age ≤ stale ∧ age < 255)) := by
  have hcheck : x.lossChecked.farEnd = x.farEnd := by
    unfold PathRecord.lossChecked
    split
    · rfl
    · split <;> rfl
  have hcount : (x.lossChecked.countedDown stale).farEnd = x.lossChecked.farEnd := by
    unfold PathRecord.countedDown
    split
    · split
      · split <;> rfl
      · rfl
    · rfl
  unfold PathRecord.monitored PathRecord.aged
  dsimp only
  rw [hcount, hcheck]

/-- The automatic release keeps the far-end condition (R159). -/
theorem updateEvent_farEnd (stats : Bool) (wish : List UpdateTask) (s : State) (p : Path) :
    (updateEvent stats wish s).paths[p].farEnd = (s.paths[p].monitored s.estimator.reportStale).farEnd := by
  have hreleased : ∀ x : PathRecord, (x.releasedIf s.cut.level s.tb.runNs).farEnd = x.farEnd := by
    intro x
    unfold PathRecord.releasedIf
    split <;> rfl
  rcases updateEvent_path stats wish s p with h | h
  · exact (congrArg PathRecord.farEnd h).trans (by rw [monitored_farEnd, hreleased, monitored_farEnd])
  · exact (congrArg PathRecord.farEnd h).trans (hreleased _)

/-- Settles O31: each row is the due update event where that event makes it so, or a change of one record, or nothing. -/
theorem probationsEndAndFarEndConditionsLapse : Obligations.ProbationsEndAndFarEndConditionsLapse := by
  intro s p x stale takesTheUpdate
  have htakes : ∀ i, s.updateDue → exec i s = .next (takeBoundary s.quiet) → takesTheUpdate i (takeBoundary s.quiet) := by
    intro i hdue hexec
    obtain ⟨hpath, hframe⟩ := takeBoundary_update hdue p
    exact ⟨hexec, exec_boundary s, hpath, hframe⟩
  refine ⟨fun hstate hcount hdue => ?ends, fun h => ?waits, fun age hage => ⟨fun hold hlow hnext hdue => ?lapses,
    fun hnow => ?now⟩, fun h => ?keeps⟩
  case ends =>
    have hexec : exec (.probationCountdownEnd p) s = .next (takeBoundary s.quiet) :=
      congrArg Host.Outcome.next (takeCountdownEnd_due (s := s.quiet) hstate hcount hdue)
    have hpath := (takeBoundary_update hdue p).1 fun h => Health.noConfusion (hstate.symm.trans h.1)
    obtain ⟨hdown, hup, hagain⟩ := monitored_countdownEnd (stale := stale) hstate hcount
    refine ⟨_, htakes _ hdue hexec, fun hmany => ?_, fun hfew hproven => ?_, fun hfew hno hstale => ?_⟩
    · rw [hpath]
      exact hdown hmany
    · rw [hpath]
      exact hup hfew ((isProven_iff ..).2 hproven)
    · rw [hpath]
      refine hagain hfew (Bool.eq_false_iff.2 fun h => ?_)
      rcases (isProven_iff ..).1 h with h | ⟨v, hv, hage⟩
      · exact absurd h (not_le.2 hno)
      · exact absurd hage (not_le.2 (hstale v hv))
  case waits => exact congrArg Host.Outcome.next (takeCountdownEnd_waits (s := s.quiet) h)
  case lapses =>
    have hlapse : ¬ lapsesIn 0 s.quiet.estimator s.quiet.paths[p].farEnd = true := by
      rw [lapsesIn_iff (x := s.quiet.paths[p]) hage]
      change ¬ (stale < _ ∨ _)
      omega
    have hthen : lapsesIn 1 s.quiet.estimator s.quiet.paths[p].farEnd = true := by
      rw [lapsesIn_iff (x := s.quiet.paths[p]) hage]
      change stale < _ ∨ _
      omega
    have hexec : exec (.farEndLapse p) s = .next (takeBoundary s.quiet) :=
      congrArg Host.Outcome.next (takeLapse_due (s := s.quiet) hlapse hthen hdue)
    refine ⟨_, htakes _ hdue hexec, ?_⟩
    rw [takeBoundary_updates (s := s.quiet) hdue.1 hdue.2, updateEvent_farEnd, monitored_farEnd]
    change (x.farEnd.map _).filter (fun age => decide (age ≤ stale ∧ age < 255)) = none
    rw [hage, Option.map_some, Option.filter_some, if_neg]
    simp only [decide_eq_true_eq]
    omega
  case now =>
    have hlapse : lapsesIn 0 s.quiet.estimator s.quiet.paths[p].farEnd = true := by
      rw [lapsesIn_iff (x := s.quiet.paths[p]) hage]
      change stale < min 255 age ∨ _
      omega
    exact congrArg Host.Outcome.next (takeLapse_now (s := s.quiet) hlapse)
  case keeps =>
    refine congrArg Host.Outcome.next (takeLapse_waits (s := s.quiet) ?_ ?_)
    · rcases h with h | ⟨age, hage, hlow, h⟩
      · rw [lapsesIn_none (x := s.quiet.paths[p]) h]
        exact Bool.false_ne_true
      · rw [lapsesIn_iff (x := s.quiet.paths[p]) hage]
        change ¬ (stale < _ ∨ _)
        omega
    · intro hdue
      rcases h with h | ⟨age, hage, hlow, h⟩
      · rw [lapsesIn_none (x := s.quiet.paths[p]) h]
        exact Bool.false_ne_true
      · rw [lapsesIn_iff (x := s.quiet.paths[p]) hage]
        change ¬ (stale < _ ∨ _)
        rcases h with h | h
        · omega
        · exact absurd hdue h.2

end Sys2Proof.Machine

/-! ## The periods of the core clock, and the filtered edges

What one period makes of the time base and the two filters (R42, R44, R58, R153), and the edges of the filters (R45). -/

namespace Sys2Proof.Machine

/-- A filter after a sample of its input, three samples of the other level at most (R44, R153). -/
theorem sample_eq (f : Filter) (input : Bool) :
    f.sample input = if input = f.level then ⟨f.level, 0⟩ else ⟨f.level, min 3 (f.run + 1)⟩ := by
  unfold Filter.sample
  rw [saturate, Nat.min_comm]
  rfl

/-- A sum of ticks passes a multiple of a spacing, with the units of 2^-32 ns written out (R58). -/
theorem crosses_eq (p : Spacing) (t : Time) (inc : Nat) :
    crosses p t inc =
      decide (t.ns / ((match p with | .ms1 => 1 | .ms10 => 10 | .ms100 => 100 | .ms1000 => 1000) * 1000000) <
        (t.ns * 4294967296 + t.frac + inc) / 4294967296 /
          ((match p with | .ms1 => 1 | .ms10 => 10 | .ms100 => 100 | .ms1000 => 1000) * 1000000)) := by
  cases p <;> rfl

/-- The increment of a period at a rate, with its constants written out (R42). -/
theorem incrementOf_eq (rate : Int) :
    incrementOf rate =
      (17179869184 +
        if 0 ≤ rate * 17179869184 then (2 * (rate * 17179869184) + 1000000000) / 2000000000
        else -((2 * -(rate * 17179869184) + 1000000000) / 2000000000)).toNat := rfl

/-- The time base after the increment of a period (R42, R58). -/
theorem increment_eq (t : TimeBase) :
    t.increment =
      { t with
        time := t.time.advance (incrementOf t.rate)
        runNs := min 18446744073709551615 (t.runNs + (t.runFrac + incrementOf t.rate) / 4294967296)
        runFrac := (t.runFrac + incrementOf t.rate) % 4294967296
        boundaryDue := crosses t.p t.time (incrementOf t.rate) } := by
  unfold TimeBase.increment
  dsimp only
  rw [saturate, Nat.min_comm]
  rfl

/-! ### Nothing to settle -/

theorem takeRefp_idle {s : State} (h : s.tb.refp.due = false) : takeRefpRise s = s ∧ takeRefpFall s = s := by
  unfold takeRefpRise takeRefpFall Filter.rising Filter.falling
  rw [h]
  exact ⟨rfl, rfl⟩

theorem takeCut_idle {s : State} (h : s.cut.due = false) : takeCutRise s = s ∧ takeCutFall s = s := by
  unfold takeCutRise takeCutFall Filter.rising Filter.falling
  rw [h]
  exact ⟨rfl, rfl⟩

theorem takeWatch_idle {s : State} (h : s.tb.watchDue = false) : takeWatch s = s := by
  unfold takeWatch
  rw [h]
  rfl

theorem foldl_takeTimer_idle {s : State} (h : ∀ p : Path, timerExpired s.tb.runNs s.paths[p] = false) (ps : List Path) :
    ps.foldl (fun s p => takeTimer p s) s = s := by
  induction ps with
  | nil => rfl
  | cons p ps ih => rw [List.foldl_cons, takeTimer_waits (h p), ih]

/-- Where nothing is due, nothing is taken ahead of the period (log 3). -/
theorem settle_idle {s : State} (h : s.nothingDue) : settle s = s := by
  obtain ⟨hrestart, hrefp, hcut, hboundary, hwatch, htimers⟩ := h
  have hfinish : finishRestart s = s := by
    unfold finishRestart
    rw [hrestart]
  unfold settle
  dsimp only
  rw [hfinish, (takeRefp_idle hrefp).1, (takeRefp_idle hrefp).2, (takeCut_idle hcut).1, (takeCut_idle hcut).2,
    takeBoundary_idle hboundary, takeWatch_idle hwatch, foldl_takeTimer_idle htimers]

/-- Settles O46: with nothing due the period is the increment and the two samples. -/
theorem timeAdvancesByOneIncrement : Obligations.TimeAdvancesByOneIncrement := by
  intro s refp cutN h b q rounded inc sum spacing sampled
  have hidle : settle s.quiet = s.quiet := settle_idle (s := s.quiet) h
  have hexec : exec (.timeIncrement refp cutN) s = .next (clockPeriod refp cutN (settle s.quiet)) := rfl
  have hinc : incrementOf b.rate = inc := incrementOf_eq b.rate
  have htb : s.quiet.tb = b := rfl
  have hcut : s.quiet.cut = s.cut := rfl
  rw [hexec, hidle]
  unfold clockPeriod TimeBase.period
  rw [htb, hcut, increment_eq, sample_eq, sample_eq, hinc, advance_eq, crosses_eq]
  rfl

/-! ### The filtered edges -/

theorem due_iff (f : Filter) : f.due = true ↔ 3 ≤ f.run := decide_eq_true_iff

theorem due_eq_false {f : Filter} (h : f.run < 3) : f.due = false := decide_eq_false (not_le.2 h)

theorem takeRefpRise_due {s : State} (hlevel : s.tb.refp.level = false) (hrun : 3 ≤ s.tb.refp.run) :
    takeRefpRise s = s.setTb { s.tb.capture .refp with refp := ⟨true, 0⟩ } := by
  unfold takeRefpRise Filter.rising Filter.change
  rw [(due_iff _).2 hrun, hlevel]
  rfl

theorem takeRefpFall_due {s : State} (hlevel : s.tb.refp.level = true) (hrun : 3 ≤ s.tb.refp.run) :
    takeRefpFall s = s.setTb { s.tb with refp := ⟨false, 0⟩ } := by
  unfold takeRefpFall Filter.falling Filter.change
  rw [(due_iff _).2 hrun, hlevel]
  rfl

theorem takeCutFall_due {s : State} (hlevel : s.cut.level = true) (hrun : 3 ≤ s.cut.run) :
    takeCutFall s = s.setCut ⟨false, 0⟩ := by
  unfold takeCutFall Filter.falling Filter.change
  rw [(due_iff _).2 hrun, hlevel]
  rfl

/-- A capture event, the overcapture flag set where it replaces a capture not yet used (R45). -/
theorem capture_eq (t : TimeBase) (src : CaptureSource) :
    t.capture src =
      { t with
        current := some ⟨t.time.sec, t.time.ns, t.runNs, src, false⟩, previous := t.current
        overcapture := t.overcapture || (match t.current with | some c => !c.used | none => false) } := by
  unfold TimeBase.capture
  cases t.current with
  | none => rw [Bool.or_false]
  | some c => rfl

/-- Settles O47: an edge that is due is its event, one that is not is nothing. -/
theorem filteredEdgesTakeEffect : Obligations.FilteredEdgesTakeEffect := by
  intro s b
  refine ⟨fun hlevel hrun => ?_, fun hlevel hrun => congrArg Host.Outcome.next (takeRefpFall_due (s := s.quiet) hlevel hrun),
    fun hlevel hrun => congrArg Host.Outcome.next (takeCutFall_due (s := s.quiet) hlevel hrun), fun hrun => ?_, fun hrun => ?_⟩
  · have hexec : exec .captureEvent s = .next (takeRefpRise s.quiet) := rfl
    rw [hexec, takeRefpRise_due (s := s.quiet) hlevel hrun, capture_eq]
    rfl
  · obtain ⟨hrise, hfall⟩ := takeRefp_idle (s := s.quiet) (due_eq_false hrun)
    exact ⟨congrArg Host.Outcome.next hrise, congrArg Host.Outcome.next hfall⟩
  · obtain ⟨hrise, hfall⟩ := takeCut_idle (s := s.quiet) (due_eq_false hrun)
    exact ⟨congrArg Host.Outcome.next hrise, congrArg Host.Outcome.next hfall⟩

end Sys2Proof.Machine

/-! ## The evaluation of captures

The discipline and the step of an accepted capture, the strays, and the evaluation in each reference state (R46 to R51). -/

namespace Sys2Proof.Machine

/-- The clamp of a rate leaves a record exactly where it changes the rate (R43, R48). -/
theorem clampCauses_eq (t : TimeBase) (e f : Int) :
    t.clampCauses e f =
      if t.steered e f = max (-(t.disc.rateLimit : Int)) (min (t.steered e f) t.disc.rateLimit) then []
      else [.rateClamp] := by
  unfold TimeBase.clampCauses
  generalize t.steered e f = rate
  generalize t.disc.rateLimit = limit
  by_cases h : rate < -(limit : Int) ∨ (limit : Int) < rate
  · rw [if_pos h, if_neg (by omega)]
  · rw [if_neg h, if_pos (by omega)]

/-- The frequency error of a capture, with the window of R46 written out. -/
theorem freqError_eq (t : TimeBase) (c : Capture) :
    t.freqError c =
      match t.prevError, t.lastAccepted with
      | some e0, some run =>
        if run + 1000000000 ≤ c.run + t.disc.pulseWindow ∧ c.run ≤ run + 1000000000 + t.disc.pulseWindow then
          phaseError c - e0
        else 0
      | _, _ => 0 := by
  unfold TimeBase.freqError nearSecond
  cases t.prevError with
  | none => rfl
  | some e0 =>
    cases t.lastAccepted with
    | none => rfl
    | some run =>
      exact if_congr ((Bool.and_eq_true ..).to_iff.trans (and_congr decide_eq_true_iff decide_eq_true_iff)) rfl rfl

/-- An accepted capture too far off steps the clock (R48). -/
theorem acquire_steps {t : TimeBase} {c : Capture} (h : t.disc.stepThreshold < (phaseError c).natAbs) :
    t.acquire c = ((t.accepted c).step (phaseError c), [.step]) := if_pos h

/-- Any other disciplines it, and locks where the run is long enough (R48). -/
theorem acquire_disciplines {t : TimeBase} {c : Capture} (h : (phaseError c).natAbs ≤ t.disc.stepThreshold) :
    t.acquire c =
      (let run := if (phaseError c).natAbs ≤ t.disc.lockWindow then t.lockRun + 1 else 0
       ({ (t.accepted c).discipline (phaseError c) (t.freqError c) with
          lockRun := run, ref := if t.disc.lockCount ≤ run then .locked else t.ref },
        t.clampCauses (phaseError c) (t.freqError c) ++ if t.disc.lockCount ≤ run then [.locked] else [])) := by
  unfold TimeBase.acquire
  dsimp only
  rw [if_neg (not_lt.2 h)]
  by_cases hlock : t.disc.lockCount ≤ if (phaseError c).natAbs ≤ t.disc.lockWindow then t.lockRun + 1 else 0
  · rw [if_pos hlock, if_pos hlock, if_pos hlock]
  · rw [if_neg hlock, if_neg hlock, if_neg hlock, List.append_nil]
    rfl

theorem evaluate_free {t : TimeBase} (c : Capture) (h : t.ref = .free) : t.evaluate c = t.enterAcquiring c := by
  unfold TimeBase.evaluate
  dsimp only
  rw [h]

theorem evaluate_acquiring {t : TimeBase} (c : Capture) (h : t.ref = .acquiring) : t.evaluate c = t.acquire c := by
  unfold TimeBase.evaluate
  dsimp only
  rw [h]

theorem evaluate_holdover {t : TimeBase} (c : Capture) (h : t.ref = .holdover) :
    t.evaluate c = if t.disc.pulseWindow < (phaseError c).natAbs then t.stray else t.enterAcquiring c := by
  unfold TimeBase.evaluate
  dsimp only
  rw [h]

theorem evaluate_locked {t : TimeBase} (c : Capture) (h : t.ref = .locked) :
    t.evaluate c =
      if t.disc.pulseWindow < (phaseError c).natAbs then t.stray
      else if (phaseError c).natAbs ≤ 4 * t.disc.lockWindow then
        ((t.accepted c).discipline (phaseError c) (t.freqError c), t.clampCauses (phaseError c) (t.freqError c))
      else ((t.enterAcquiring c).1, .unlocked :: (t.enterAcquiring c).2) := by
  unfold TimeBase.evaluate
  dsimp only
  rw [h]

/-- An unused capture is used, and evaluated with its records (R45). -/
theorem exec_captureEvaluation {s : State} {c : Capture} (h : s.tb.current = some c) (hunused : c.used = false)
    {t : TimeBase} {causes : List TimeCause}
    (heval : ({ s.tb with current := some { c with used := true } } : TimeBase).evaluate c = (t, causes)) :
    exec .captureEvaluation s = .next (timeEvents causes (phaseError c) { s with bus := [], tb := t }) := by
  have hexec : exec .captureEvaluation s = .next (evaluateCapture s.quiet) := rfl
  have hcurrent : s.quiet.tb.current = some c := h
  have htb : s.quiet.tb = s.tb := rfl
  rw [hexec]
  unfold evaluateCapture
  rw [hcurrent]
  dsimp only
  rw [hunused, if_neg Bool.false_ne_true, htb, heval]
  rfl

/-- Settles O48: the evaluation state by state, the acquisition split at the step threshold. -/
theorem capturesAreEvaluatedByTheReferenceState : Obligations.CapturesAreEvaluatedByTheReferenceState := by
  intro s c hcurrent hunused b d used e f rate clamped clamps after accepted acquiring
  have he : phaseError c = e := rfl
  have hf : ∀ (ref : RefState) (lockRun strayRun : Nat),
      ({ used with ref := ref, lockRun := lockRun, strayRun := strayRun } : TimeBase).freqError c = f :=
    fun _ _ _ => freqError_eq ..
  have hafter : ∀ {t : TimeBase} {causes : List TimeCause}, used.evaluate c = (t, causes) → after t causes :=
    fun h => exec_captureEvaluation hcurrent hunused h
  have hclamps : ∀ (ref : RefState) (lockRun strayRun : Nat),
      ({ used with ref := ref, lockRun := lockRun, strayRun := strayRun } : TimeBase).clampCauses e f = clamps :=
    fun _ _ _ => clampCauses_eq ..
  have hacquires : ∀ (lockRun strayRun : Nat) (earlier : List TimeCause),
      (∀ t causes, ({ used with ref := .acquiring, lockRun := lockRun, strayRun := strayRun } : TimeBase).acquire c = (t, causes) →
        used.evaluate c = (t, earlier ++ causes)) → acquiring lockRun earlier := by
    intro lockRun strayRun earlier heval
    refine ⟨fun hfar => ?_, fun hnear => ?_⟩
    · exact hafter (heval _ _ (acquire_steps hfar))
    · have h := heval _ _ (acquire_disciplines hnear)
      rw [he, hf, hclamps, ← List.append_assoc] at h
      exact hafter h
  refine ⟨fun href => hacquires 0 0 [] fun t causes h => ?free, fun href => hacquires b.lockRun b.strayRun [] fun t causes h => ?acq,
    fun href hwithin => hacquires 0 0 [] fun t causes h => ?holdover,
    fun href hwithin hfar => hacquires 0 0 [.unlocked] fun t causes h => ?unlocks, fun href hwithin hnear => hafter ?locked,
    fun href hstray => ?strays⟩
  case free => exact (evaluate_free (t := used) c href).trans h
  case acq =>
    have hsame : ({ used with ref := .acquiring, lockRun := b.lockRun, strayRun := b.strayRun } : TimeBase) = used :=
      congrArg (fun ref => ({ used with ref := ref } : TimeBase)) href.symm
    rw [hsame] at h
    exact (evaluate_acquiring (t := used) c href).trans h
  case holdover => exact (evaluate_holdover (t := used) c href).trans ((if_neg (not_lt.2 hwithin)).trans h)
  case unlocks =>
    have hlast : ((used.enterAcquiring c).1, TimeCause.unlocked :: (used.enterAcquiring c).2) =
        (t, [TimeCause.unlocked] ++ causes) :=
      congrArg (fun x : TimeBase × List TimeCause => (x.1, TimeCause.unlocked :: x.2)) h
    exact (evaluate_locked (t := used) c href).trans ((if_neg (not_lt.2 hwithin)).trans ((if_neg (not_le.2 hfar)).trans hlast))
  case locked =>
    have hlast : ((used.accepted c).discipline e (used.freqError c), used.clampCauses e (used.freqError c)) =
        ({ accepted with rate := clamped, prevError := some e }, clamps) :=
      Prod.ext (congrArg (TimeBase.discipline (used.accepted c) e) (hf b.ref b.lockRun b.strayRun))
        ((congrArg (TimeBase.clampCauses used e) (hf b.ref b.lockRun b.strayRun)).trans (hclamps b.ref b.lockRun b.strayRun))
    exact (evaluate_locked (t := used) c href).trans ((if_neg (not_lt.2 hwithin)).trans ((if_pos hnear).trans hlast))
  case strays =>
    have heval : used.evaluate c = used.stray := by
      rcases href with href | href
      · exact (evaluate_locked (t := used) c href).trans (if_pos hstray)
      · exact (evaluate_holdover (t := used) c href).trans (if_pos hstray)
    exact ⟨fun hfew => hafter (heval.trans (if_pos hfew)), fun hmany => hafter (heval.trans (if_neg (not_lt.2 hmany)))⟩

end Sys2Proof.Machine

/-! ## The watch

Its expiry in each reference state, and the record of the change (R52, R53). -/

namespace Sys2Proof.Machine

theorem exec_watchExpiry (s : State) : exec .watchExpiry s = .next (takeWatch s.quiet) := rfl

theorem takeWatch_due {s : State} (h : s.tb.watchDue = true) : takeWatch s = expireWatch s := if_pos h

/-- The limit of the watch in each reference state (R52). -/
theorem watchDue_iff (t : TimeBase) :
    t.watchDue = true ↔ (t.ref = .acquiring ∨ t.ref = .locked) ∧ t.watchMark + 1100000000 ≤ t.runNs ∨
      t.ref = .holdover ∧ t.watchMark + t.disc.holdoverLimit * 1000000000 ≤ t.runNs := by
  unfold TimeBase.watchDue
  cases t.ref <;> simp only [decide_eq_true_iff] <;> simp [watchLimit, billion]

/-- An expiry in ACQUIRING or HOLDOVER ends in FREE (R52). -/
theorem expireWatch_frees {s : State} (h : s.tb.ref = .acquiring ∨ s.tb.ref = .holdover) :
    expireWatch s = timeEvent .free 0 (s.setTb { s.tb with ref := .free }) := by
  unfold expireWatch
  rcases h with h | h <;> rw [h]

theorem expireWatch_locked {s : State} (h : s.tb.ref = .locked) :
    expireWatch s = timeEvent .holdover 0 (s.setTb { s.tb with ref := .holdover, watchMark := s.tb.runNs }) := by
  unfold expireWatch
  rw [h]

/-- The reading after an expiry: the quality is that of a clock without a reference (R54, R55). -/
theorem reading_expired {s : State} (h : s.tb.ref = .free ∨ s.tb.ref = .holdover) :
    s.reading = ⟨s.tb.time, s.tb.epoch,
      if s.tb.secondsSet then (if s.tb.ref = .free then .free else .holdover) else .unset⟩ := by
  rw [reading_eq]
  cases s.tb.secondsSet with
  | false => rfl
  | true => rcases h with h | h <;> rw [h] <;> rfl

/-- Settles O49: an expiry by the reference state, or nothing where the limit has not passed. -/
theorem theWatchExpires : Obligations.TheWatchExpires := by
  intro s b report
  refine ⟨fun h => ?frees, fun href hdue => ?locked, fun h => ?waits⟩
  case frees =>
    have hdue : s.quiet.tb.watchDue = true := (watchDue_iff _).2 (h.imp (fun h => ⟨.inl h.1, h.2⟩) id)
    rw [exec_watchExpiry, takeWatch_due hdue, expireWatch_frees (s := s.quiet) (h.imp And.left And.left)]
    unfold timeEvent
    rw [timeReport_eq, reading_expired (.inl rfl)]
    rfl
  case locked =>
    have hdue' : s.quiet.tb.watchDue = true := (watchDue_iff _).2 (.inl ⟨.inr href, hdue⟩)
    rw [exec_watchExpiry, takeWatch_due hdue', expireWatch_locked (s := s.quiet) href]
    unfold timeEvent
    rw [timeReport_eq, reading_expired (.inr rfl)]
    rfl
  case waits =>
    have hno : s.quiet.tb.watchDue = false := by
      refine Bool.eq_false_iff.2 fun hdue => ?_
      rcases (watchDue_iff _).1 hdue with ⟨href, hlate⟩ | ⟨href, hlate⟩
      · change b.ref = .acquiring ∨ b.ref = .locked at href
        change b.watchMark + 1100000000 ≤ b.runNs at hlate
        rcases h with h | ⟨-, h⟩ | ⟨h, -⟩
        · simp [h] at href
        · omega
        · simp [h] at href
      · change b.ref = .holdover at href
        change b.watchMark + b.disc.holdoverLimit * 1000000000 ≤ b.runNs at hlate
        rcases h with h | ⟨h, -⟩ | ⟨-, h⟩
        · simp [h] at href
        · simp [href] at h
        · omega
    rw [exec_watchExpiry, takeWatch_idle hno]
    rfl

end Sys2Proof.Machine

/-! ## Commands: judged, locked, refused

The rules that every command row shares (R164), the commands frozen at a lock level, RAISE_LOCK and GENERATE (R165,
R171). -/

namespace Sys2Proof.Machine

/-! ### One rule for every judged command -/

/-- A fetched command is judged in the state its arguments have returned to, and its answer presented (R164). -/
theorem judge_of {s : State} {c : Command} (h : s.fetched c) {suits : BitVec 8 → Bool} (hs : suits c.opcode = true)
    {f : State → Answer × State} {a : Answer} {u : State} (hf : f s.working = (a, u)) (ho : u.offers = s.offers)
    (hr : u.cu.refusal = s.cu.refusal) : judge suits f s.quiet = u.answered c a := by
  have hjudge := judge_fetched s c h suits hs f (by rw [hf]; exact ho) (by rw [hf]; exact hr)
  rw [hjudge, hf]

/-- A judgement that leaves the state as it is (R164). -/
theorem judge_refused {s : State} {c : Command} (h : s.fetched c) {suits : BitVec 8 → Bool} (hs : suits c.opcode = true)
    {f : State → Answer × State} {a : Answer} (hf : f s.working = (a, s.working)) :
    judge suits f s.quiet = s.working.answered c a := judge_of h hs hf rfl rfl

/-- The two rules for a row that names one opcode. -/
theorem judge_opcode {s : State} {c : Command} (h : s.fetched c) {op : BitVec 8} (hop : c.opcode = op)
    {f : State → Answer × State} {a : Answer} {u : State} (hf : f s.working = (a, u)) (ho : u.offers = s.offers)
    (hr : u.cu.refusal = s.cu.refusal) : judge (· == op) f s.quiet = u.answered c a :=
  judge_of (suits := (· == op)) h (beq_iff_eq.2 hop) hf ho hr

theorem judge_opcode_refused {s : State} {c : Command} (h : s.fetched c) {op : BitVec 8} (hop : c.opcode = op)
    {f : State → Answer × State} {a : Answer} (hf : f s.working = (a, s.working)) :
    judge (· == op) f s.quiet = s.working.answered c a := judge_opcode h hop hf rfl rfl

/-- A row that answers a command without any effect of its own, offered at once (R164). -/
theorem beginWork_answering {s : State} {c : Command} (h : s.fetched c) {op : BitVec 8} (hop : c.opcode = op)
    {work : State → Work} {a : Answer} (hw : work s.working = .answering a) :
    beginWork op work s.quiet = s.working.answered c a := by
  have hargs := argumentsFor_fetched s c h (· == op) (beq_iff_eq.2 hop)
  unfold beginWork
  rw [hargs]
  have htook : s.quiet.tookArguments = s.working := rfl
  dsimp only
  rw [htook, hw]
  exact answer_eq c a s.working h.2.2.1 h.2.1

theorem suitsEvent_of {c : Command} {args : ArgWords} {e : TestEvent} (hop : c.opcode = 0x10) (he : argNat args 1 = e.code) :
    suitsEvent e args c.opcode = true := by
  unfold suitsEvent
  rw [hop, he]
  simp

theorem suitsAction_of {c : Command} {args : ArgWords} {act : PathAction} (hop : c.opcode = 0x0D)
    (ha : argNat args 2 = act.code) : suitsAction act args c.opcode = true := by
  unfold suitsAction
  rw [hop, ha]
  simp

/-! ### Frozen commands -/

/-- A GENERATE frozen at the present level is LOCKED (R164). -/
theorem judge_generate_locked {s : State} {c : Command} (h : s.fetched c) {args : ArgWords} {e : TestEvent}
    (hop : c.opcode = 0x10) (he : argNat args 1 = e.code) (hl : 1 ≤ s.cu.lockLevel) :
    judge (suitsEvent e args) (judgeGenerate e args) s.quiet = s.working.answered c ⟨.locked, 0, 0⟩ :=
  judge_refused h (suitsEvent_of hop he) (checked_locked 1 _ s.working _ hl)

/-- Settles O52: the lock is judged ahead of everything else, and a frozen command leaves the state as it is. -/
theorem frozenCommandsChangeNothing : Obligations.FrozenCommandsChangeNothing := by
  intro s c args h locked
  have hlocked : ∀ {i : Instr} {v : Word} {t : State}, exec i s = .next t → t = s.working.answered c ⟨.locked, 0, v⟩ →
      locked i v := fun hexec ht => hexec.trans (congrArg Host.Outcome.next ht)
  refine ⟨?rows, fun hop hl => ⟨fun he => ?update, fun he => ?pulse, fun he => ?cut⟩, fun hop hl hpath hact => ?disable⟩
  case rows =>
    simp only [List.forall_mem_cons]
    refine ⟨?_, ?_, ?_, ?_, ?_, ?_, ?_, ?_, ?_, ?_, ?_, ?_,
      fun hop hl => hlocked rfl (beginWork_answering h hop (if_pos hl)), fun _ hx => absurd hx List.not_mem_nil⟩
    all_goals exact fun hop hl => hlocked rfl (judge_opcode_refused h hop (if_pos hl))
  case update => exact hlocked rfl (judge_generate_locked (e := .update) h hop he hl)
  case pulse => exact hlocked rfl (judge_generate_locked (e := .refPulse) h hop he hl)
  case cut => exact hlocked rfl (judge_generate_locked (e := .cut) h hop he hl)
  case disable =>
    refine hlocked rfl (judge_refused h (suitsAction_of (act := .disable) hop hact) ?_)
    have hbad : firstBad [(1, 7 < argNat args 1), (2, 3 < argNat args 2)] = none := by
      simp [firstBad, hpath, hact]
    have hfrozen : PathAction.disable.frozen s.working.cu.lockLevel = true := decide_eq_true hl
    unfold judgePathAdmin
    dsimp only
    rw [hbad]
    exact if_pos hfrozen

/-! ### RAISE_LOCK and GENERATE -/

/-- A GENERATE that no lock freezes makes its event (R171). -/
theorem judgeGenerate_effect {s : State} {args : ArgWords} {e : TestEvent} (he : argNat args 1 = e.code)
    (hl : s.cu.lockLevel = 0) : judgeGenerate e args s = (done, e.effect s) := by
  refine checked_executed 1 _ s _ (by omega) ?_
  have hcode : ¬ 2 < e.code := by cases e <;> decide
  simp [firstBad, he, hcode]

/-- Settles O59: RAISE_LOCK by its three cases, and the three events of GENERATE. -/
theorem raiseLockAndGenerateTakeEffect : Obligations.RaiseLockAndGenerateTakeEffect := by
  intro s c args h n b
  refine ⟨fun hop => ⟨fun hbad => ?bad, fun hn hlow => ?low, fun hn hup => ?raised⟩, fun hop hl => ⟨fun he => ?update,
    fun he => ?pulse, fun he => ?cut⟩⟩
  case bad =>
    exact congrArg Host.Outcome.next (judge_opcode_refused h hop (if_pos hbad))
  case low =>
    exact congrArg Host.Outcome.next
      (judge_opcode_refused h hop ((if_neg (not_lt.2 hn)).trans (if_pos hlow)))
  case raised =>
    exact congrArg Host.Outcome.next
      (judge_opcode h hop ((if_neg (not_lt.2 hn)).trans (if_neg (not_lt.2 hup))) rfl rfl)
  case update =>
    have only := updateEvent_only false (Config.updateOrder s.choice) { s.working with choice := s.choice + 1 }
    exact congrArg Host.Outcome.next (judge_of h (suitsEvent_of (e := .update) hop he)
      (judgeGenerate_effect (s := s.working) (e := .update) he hl) only.offers (congrArg CommandUnit.refusal only.cu))
  case pulse =>
    have heffect := judgeGenerate_effect (s := s.working) (e := .refPulse) he hl
    have hcapture : TestEvent.refPulse.effect s.working = s.working.setTb _ :=
      congrArg s.working.setTb (capture_eq s.tb .generated)
    exact congrArg Host.Outcome.next (judge_of h (suitsEvent_of (e := .refPulse) hop he)
      (heffect.trans (congrArg (Prod.mk done) hcapture)) rfl rfl)
  case cut =>
    have only := cutEvent_only .generated s.working
    exact ⟨_, congrArg Host.Outcome.next (judge_of h (suitsEvent_of (e := .cut) hop he)
      (judgeGenerate_effect (s := s.working) (e := .cut) he hl) only.offers (congrArg CommandUnit.refusal only.cu)),
      fun p => cutEvent_get .generated s.working p, only⟩

end Sys2Proof.Machine

/-! ## Routes and rings

SET_ROUTE, SET_RING and SET_RING_GROUP, executed (R121, R139, R169, R170, R175). -/

namespace Sys2Proof.Machine

/-! ### Answers and numbers -/

theorem clampedAnswer_nil : clampedAnswer [] = done := rfl

/-- The first argument that a clamp changed gives the detail (R164). -/
theorem clampedAnswer_cons (i : Nat) (b : Bool) (l : List (Nat × Bool)) :
    clampedAnswer ((i, b) :: l) = if b then ⟨.doneClamped, i, 0⟩ else clampedAnswer l := by
  cases b <;> rfl

theorem firstBad_nil : firstBad [] = none := rfl

theorem firstBad_cons (i : Nat) (b : Bool) (l : List (Nat × Bool)) :
    firstBad ((i, b) :: l) = if b then some i else firstBad l := by
  cases b <;> rfl

/-- A command whose structural checks all pass, at a level that does not freeze it, is executed (step 4 of R164). -/
theorem judge_executed {s : State} {c : Command} (h : s.fetched c) {op : BitVec 8} (hop : c.opcode = op) {level : Nat}
    {f : State → Answer × State} {errors : List (Nat × Bool)} {a b : Answer} {u t : State}
    (hf : f s.working = checked level errors s.working (b, t)) (hl : s.cu.lockLevel < level) (hok : firstBad errors = none)
    (ha : b = a) (hu : t = u) (ho : u.offers = s.offers) (hr : u.cu.refusal = s.cu.refusal) :
    judge (· == op) f s.quiet = u.answered c a := by
  subst ha hu
  exact judge_opcode h hop (hf.trans (checked_executed level errors s.working (b, t) hl hok)) ho hr

theorem clampNat_zero (hi n : Nat) : clampNat 0 hi n = min n hi := Nat.zero_max ..

theorem toRoute_val (r : Route) : toRoute r.val = r := Fin.ext (Nat.mod_eq_of_lt r.isLt)

theorem toPath_val (p : Path) : toPath p.val = p := Fin.ext (Nat.mod_eq_of_lt p.isLt)

theorem toRing_val (k : RingId) : toRing k.val = k := Fin.ext (Nat.mod_eq_of_lt k.isLt)

theorem toTag_val (t : Tag) : toTag t.val = t := Fin.ext (Nat.mod_eq_of_lt t.isLt)

/-! ### SET_ROUTE -/

/-- The list of a SET_ROUTE that names distinct paths (R169). -/
theorem routeList_eq {args : ArgWords} {list : List Path} (hlen : argNat args 2 = list.length) (hfour : list.length ≤ 4)
    (hlist : ∀ (i : Nat) (p : Path), list[i]? = some p → listEntry args i = p.val) : routeList args = list := by
  unfold routeList
  rw [hlen, Nat.mod_eq_of_lt (by omega)]
  refine List.ext_getElem? fun i => ?_
  rw [List.getElem?_map]
  by_cases hi : i < list.length
  · rw [List.getElem?_range hi, List.getElem?_eq_getElem hi, Option.map_some,
      hlist i _ (List.getElem?_eq_getElem hi), toPath_val]
  · rw [List.getElem?_eq_none (by simpa using hi), List.getElem?_eq_none (not_lt.1 hi)]
    rfl

/-- No position of a list of distinct paths is bad (R169). -/
theorem entryBad_eq_false {args : ArgWords} {list : List Path} (hlen : argNat args 2 = list.length) (hnodup : list.Nodup)
    (hlist : ∀ (i : Nat) (p : Path), list[i]? = some p → listEntry args i = p.val) (i : Nat) : entryBad args i = false := by
  unfold entryBad
  rw [hlen]
  by_cases hi : i < list.length
  · have hentry := hlist i _ (List.getElem?_eq_getElem hi)
    have hsmall : ¬ 7 < listEntry args i := by
      rw [hentry]
      omega
    have hfirst : ¬ (List.range i).any (fun j => listEntry args j == listEntry args i) = true := by
      rw [List.any_eq_true]
      rintro ⟨j, hj, hsame⟩
      have hji : j < i := List.mem_range.1 hj
      have hjl : j < list.length := hji.trans hi
      rw [beq_iff_eq, hentry, hlist j _ (List.getElem?_eq_getElem hjl)] at hsame
      exact absurd ((hnodup.getElem_inj_iff).1 (Fin.ext hsame)) (Nat.ne_of_lt hji)
    simp [hi, hsmall, Bool.eq_false_iff.2 hfirst]
  · simp [hi]

/-! ### SET_RING -/

/-- The mask bits a SET_RING gives: bits 1 to 9 of its word (R170). -/
theorem maskOf_getLsbD (w : Word) {n : Nat} (hn : n < 10) : (maskOf w).getLsbD n = (w.getLsbD n && n != 0) := by
  have hbit : (0x3FE : BitVec 10).getLsbD n = (n != 0) := by
    interval_cases n <;> rfl
  unfold maskOf
  rw [BitVec.getLsbD_and, BitVec.getLsbD_setWidth, hbit]
  simp [hn]

/-- A ring after a SET_RING: its positions kept exactly where its geometry is (R175). -/
theorem writeRing_eq (k : RingId) (g b i : Nat) (mask : BitVec 10) (s : State) :
    writeRing k g b i mask s =
      (let x := s.rings[k]
       let same := g = x.groups ∧ b = x.perGroup ∧ i = x.irqGroups
       s.setRing k
        { x with
          groups := g, perGroup := b, irqGroups := i, mask := mask
          group := if same then x.group else 0, position := if same then x.position else 0
          completed := if same then x.completed else 0, consumer := if same then x.consumer else 0 }) := by
  unfold writeRing
  dsimp only
  by_cases hsame : g = s.rings[k].groups ∧ b = s.rings[k].perGroup ∧ i = s.rings[k].irqGroups
  · simp only [if_pos hsame]
  · simp only [if_neg hsame]

/-- A group base stored at its group (R175). -/
theorem writeRingGroup_eq (k : RingId) (group : Tag) (base : Addr) (s : State) :
    writeRingGroup k group.val base s =
      s.setRing k { s.rings[k] with bases := s.rings[k].bases.set group (some base) } := by
  have hset : ∀ t : Tag, t = group →
      s.setRing k { s.rings[k] with bases := s.rings[k].bases.set t (some base) } =
        s.setRing k { s.rings[k] with bases := s.rings[k].bases.set group (some base) } := by
    rintro _ rfl
    rfl
  exact hset _ (toTag_val group)

/-- Settles O57: the checks pass, and each command stores what it gives. -/
theorem routeAndRingCommandsTakeEffect : Obligations.RouteAndRingCommandsTakeEffect := by
  intro s c args h a
  refine ⟨fun r list hop hl hr hlen hfour hnodup hlist => ?route, fun k hop hl hk => ?ring, fun k group hop hl hk hgroup hbase =>
    ?group⟩
  case route =>
    intro interval resync
    have hentries : ∀ (i : Nat) (p : Path), list[i]? = some p → listEntry args i = p.val := hlist
    have hok : firstBad (routeErrors args) = none := by
      have hr3 : ¬ 3 < argNat args 1 := by
        change ¬ 3 < a 1
        omega
      have hl4 : ¬ 4 < argNat args 2 := by
        change ¬ 4 < a 2
        omega
      unfold routeErrors
      simp [firstBad_cons, firstBad_nil, entryBad_eq_false hlen hnodup hentries, hr3, hl4]
    refine congrArg Host.Outcome.next (judge_executed h hop rfl hl hok ?_ ?_ rfl rfl)
    · rw [clampNat_zero, clampedAnswer_cons, clampedAnswer_cons, clampedAnswer_nil]
      have hclamp : (min (argNat args 4) 255 != argNat args 4) = decide (255 < a 4) := by
        rw [Bool.eq_iff_iff, bne_iff_ne, decide_eq_true_iff]
        change min (a 4) 255 ≠ a 4 ↔ 255 < a 4
        omega
      rw [hclamp]
      simp only [decide_eq_true_eq, bne_iff_ne]
      rfl
    · have ha : argNat args 1 = r.val := hr
      rw [routeList_eq hlen hfour hentries, clampNat_zero, ha, toRoute_val]
      rfl
  case ring =>
    intro x g b i same
    have ha : argNat args 1 = k.val := hk
    have hok : firstBad [(1, 1 < argNat args 1)] = none := by
      have hk1 : ¬ 1 < k.val := by omega
      simp [firstBad_cons, firstBad_nil, ha, hk1]
    have hanswer : clampedAnswer [(2, g != a 2), (3, b != a 3), (4, i != a 4)] =
        if g ≠ a 2 then ⟨.doneClamped, 2, 0⟩ else if b ≠ a 3 then ⟨.doneClamped, 3, 0⟩
        else if i ≠ a 4 then ⟨.doneClamped, 4, 0⟩ else ⟨.done, 0, 0⟩ := by
      rw [clampedAnswer_cons, clampedAnswer_cons, clampedAnswer_cons, clampedAnswer_nil]
      simp only [bne_iff_ne]
      rfl
    have hstate : writeRing (toRing (argNat args 1)) g b i (maskOf (argWord args 5)) s.working =
        writeRing k g b i (maskOf (argWord args 5)) s.working := by
      rw [ha, toRing_val]
    have hjudge := judge_executed (f := judgeSetRing args) h hop rfl hl hok hanswer
      (hstate.trans (writeRing_eq k g b i (maskOf (argWord args 5)) s.working)) rfl rfl
    exact ⟨maskOf (argWord args 5), fun n hn => maskOf_getLsbD _ hn, congrArg Host.Outcome.next hjudge⟩
  case group =>
    have ha : argNat args 1 = k.val := hk
    have hg : argNat args 2 = group.val := hgroup
    have hok : firstBad [(1, 1 < argNat args 1), (2, 15 < argNat args 2), (3, (argAddr args 3).toNat % 64 != 0)] = none := by
      have hk1 : ¬ 1 < k.val := by omega
      have hg15 : ¬ 15 < group.val := by omega
      have halign : (argAddr args 3).toNat % 64 = 0 := hbase
      simp [firstBad_cons, firstBad_nil, ha, hg, hk1, hg15, halign]
    have hstate : writeRingGroup (toRing (argNat args 1)) (argNat args 2) (argAddr args 3) s.working =
        { s.working with
          rings := s.rings.set k
            { s.rings[k] with bases := s.rings[k].bases.set group (some ((argWord args 3).setWidth 32)) } } := by
      rw [ha, hg, toRing_val]
      exact writeRingGroup_eq k group _ s.working
    exact congrArg Host.Outcome.next
      (judge_executed (f := judgeSetRingGroup args) (a := ⟨.done, 0, 0⟩) h hop rfl hl hok rfl hstate rfl rfl)

end Sys2Proof.Machine

/-! ## PATH_ADMIN

The four actions, each as one judged change of one path record (R113, R114, R115, R156, R158, R171). -/

namespace Sys2Proof.Machine

/-- A change of state moves its path to another one. -/
def ChangesState (x : PathRecord) (change : Option (Health × PathCause)) : Prop :=
  ∀ new cause, change = some (new, cause) → new ≠ x.state

/-- A change of state, made or not: its record, and nothing else where the state stays (R112, R126). -/
theorem enterIf_gives {p : Path} {change : Option (Health × PathCause)} {s : State} {y : PathRecord}
    (hchange : ChangesState s.paths[p] change) (hy : judged s.tb.runNs change s.paths[p] = y) :
    (enterIf p change s).paths = s.paths.set p y ∧ (y.state = s.paths[p].state →
      (enterIf p change s).routes = s.routes ∧ (enterIf p change s).rings = s.rings ∧
        (enterIf p change s).writeList = s.writeList) := by
  subst hy
  refine ⟨enterIf_paths .., fun hsame => ?_⟩
  cases change with
  | none => exact ⟨rfl, rfl, rfl⟩
  | some c => exact absurd hsame (hchange c.1 c.2 rfl)

/-- An action that no lock freezes, with its path in range, has its effect; the value word carries the line (R171). -/
theorem judgePathAdmin_effect {act : PathAction} {args : ArgWords} {p : Path} {s : State} (hp : argNat args 1 = p.val)
    (hact : argNat args 2 = act.code) (hfree : act.frozen s.cu.lockLevel = false) :
    judgePathAdmin act args s = ((act.effect p s).1.valued s.cutValue, (act.effect p s).2) := by
  have hok : firstBad [(1, 7 < argNat args 1), (2, 3 < argNat args 2)] = none := by
    have hp7 : ¬ 7 < p.val := by omega
    have hcode : ¬ 3 < act.code := by cases act <;> decide
    simp [firstBad_cons, firstBad_nil, hp, hact, hp7, hcode]
  unfold judgePathAdmin
  dsimp only
  rw [hok]
  dsimp only
  rw [hfree, if_neg Bool.false_ne_true, hp, toPath_val]

/-- The row of an action, with what its effect comes to (R164, R171). -/
theorem judge_pathAdmin {s : State} {c : Command} {args : ArgWords} {p : Path} (act : PathAction) (h : s.fetched c)
    (hop : c.opcode = 0x0D) (hp : argNat args 1 = p.val) (hact : argNat args 2 = act.code)
    (hfree : act.frozen s.cu.lockLevel = false) {status : Status} {t : State}
    (heffect : act.effect p s.working = (⟨status, 0, 0⟩, t)) (only : OnlyHealth s.working t) :
    judge (suitsAction act args) (judgePathAdmin act args) s.quiet =
      t.answered c ⟨status, 0, if s.cut.level then 1 else 0⟩ := by
  refine judge_of h (suitsAction_of hop hact) ((judgePathAdmin_effect (s := s.working) hp hact hfree).trans ?_) only.offers
    (congrArg CommandUnit.refusal only.cu)
  rw [heffect]
  rfl

theorem judgeEnable_changes (line : Bool) (x : PathRecord) : ChangesState x (judgeEnable line x) := by
  rintro new cause h
  unfold judgeEnable at h
  split at h
  next hd =>
    obtain ⟨rfl, -⟩ := Prod.mk.inj (Option.some.inj h)
    rw [hd]
    split <;> exact Health.noConfusion
  next => cases h

theorem judgeDown_changes (cause : PathCause) (x : PathRecord) : ChangesState x (judgeDown x cause) := by
  rintro new _ h hsame
  unfold judgeDown at h
  split at h
  next hin =>
    obtain ⟨rfl, -⟩ := Prod.mk.inj (Option.some.inj h)
    rw [← hsame] at hin
    cases hin
  next => cases h

/-- A path that is in service, or not, told by its state. -/
theorem judged_forced (run : Nat) (x : PathRecord) :
    judged run (judgeDown x .forced) x =
      match x.state with
      | .up | .fading | .probation =>
        { x with belowFade := 0, belowDown := 0, aboveRecover := 0, state := .down, lastCause := 3 }
      | .down | .cut | .disabled => x := by
  unfold judgeDown
  cases x.state <;> rfl

/-- Settles O58: each action is a change of state, made or not, but for a DOWN path whose counters are cleared. -/
theorem pathAdminFollowsTheState : Obligations.PathAdminFollowsTheState := by
  intro s c args p h hop hp x value cleared onProbation gives
  refine ⟨fun hact => ?enable, fun hact hl => ?disable, fun hact => ?force, fun hact => ?release⟩
  case enable =>
    have hy : judged s.tb.runNs (judgeEnable s.cut.level x) x =
        if x.state = .disabled then
          if x.set.cutEnable = true ∧ s.cut.level = true then { cleared with state := .cut, lastCause := 1, countdown := 0 }
          else onProbation 1
        else x := by
      unfold judgeEnable
      by_cases hd : x.state = .disabled
      · rw [if_pos hd, if_pos hd]
        by_cases hcut : x.set.cutEnable = true ∧ s.cut.level = true
        · rw [if_pos hcut, if_pos (Bool.and_eq_true_iff.2 hcut)]
          rfl
        · rw [if_neg hcut, if_neg (mt Bool.and_eq_true_iff.1 hcut)]
          rfl
      · rw [if_neg hd, if_neg hd]
        rfl
    obtain ⟨hpaths, hsame⟩ := enterIf_gives (p := p) (s := s.working) (judgeEnable_changes s.cut.level x) hy
    have only := enterIf_only p (judgeEnable s.cut.level x) s.working
    have hjudge := judge_pathAdmin .enable h hop hp hact rfl (status := .done) rfl only
    exact ⟨_, congrArg Host.Outcome.next hjudge, hpaths, hsame, only⟩
  case disable =>
    have hchange : ChangesState x (if x.state = .disabled then none else some (.disabled, .adminDisable)) := by
      rintro new cause hnew
      split at hnew
      · cases hnew
      next hd =>
        obtain ⟨rfl, -⟩ := Prod.mk.inj (Option.some.inj hnew)
        exact Ne.symm hd
    have hy : judged s.tb.runNs (if x.state = .disabled then none else some (.disabled, .adminDisable)) x =
        if x.state = .disabled then x
        else { cleared with state := .disabled, lastCause := 2, timer := none, farEnd := none, countdown := 0 } := by
      split <;> rfl
    obtain ⟨hpaths, hsame⟩ := enterIf_gives (p := p) (s := s.working) hchange hy
    have only := enterIf_only p (if x.state = .disabled then none else some (.disabled, .adminDisable)) s.working
    have hjudge := judge_pathAdmin .disable h hop hp hact (decide_eq_false (not_le.2 hl)) (status := .done) rfl only
    exact ⟨_, congrArg Host.Outcome.next hjudge, hpaths, hsame, only⟩
  case force =>
    by_cases hd : x.state = .down
    · have heffect : forceDown p s.working = s.working.setPathRec p (clearCounters x) := if_pos hd
      have only := setPathRec_only s.working p (clearCounters x)
      have hjudge := judge_pathAdmin .forceDown h hop hp hact rfl (congrArg (Prod.mk done) heffect) only
      refine ⟨_, congrArg Host.Outcome.next hjudge, ?_, fun _ => ⟨rfl, rfl, rfl⟩, only⟩
      rw [hd]
      rfl
    · have heffect : forceDown p s.working = enterIf p (judgeDown x .forced) s.working := if_neg hd
      have hy : judged s.tb.runNs (judgeDown x .forced) x =
          match x.state with
          | .up | .fading | .probation => { cleared with state := .down, lastCause := 3 }
          | .down => cleared
          | .cut | .disabled => x := by
        rw [judged_forced]
        cases hs : x.state with
        | down => exact absurd hs hd
        | up | fading | probation | cut | disabled => rfl
      obtain ⟨hpaths, hsame⟩ := enterIf_gives (p := p) (s := s.working) (judgeDown_changes .forced x) hy
      have only := enterIf_only p (judgeDown x .forced) s.working
      have hjudge := judge_pathAdmin .forceDown h hop hp hact rfl (congrArg (Prod.mk done) heffect) only
      exact ⟨_, congrArg Host.Outcome.next hjudge, hpaths, hsame, only⟩
  case release =>
    have hchange : ChangesState x (if x.state = .cut ∧ s.cut.level = false then some (.probation, .released) else none) := by
      rintro new cause hnew
      split at hnew
      next hcut =>
        obtain ⟨rfl, -⟩ := Prod.mk.inj (Option.some.inj hnew)
        rw [hcut.1]
        exact Health.noConfusion
      next => cases hnew
    have hy : judged s.tb.runNs (if x.state = .cut ∧ s.cut.level = false then some (.probation, .released) else none) x =
        if x.state = .cut ∧ s.cut.level = false then onProbation 17 else x := by
      split <;> rfl
    obtain ⟨hpaths, hsame⟩ := enterIf_gives (p := p) (s := s.working) hchange hy
    have only := enterIf_only p (if x.state = .cut ∧ s.cut.level = false then some (.probation, .released) else none) s.working
    have hjudge := judge_pathAdmin .releaseCut h hop hp hact rfl rfl only
    exact ⟨_, congrArg Host.Outcome.next hjudge, hpaths, hsame, only⟩

end Sys2Proof.Machine

/-! ## The agent table and the time base commands

SET_AGENT, SET_TIMING, SET_TIME and SET_DISCIPLINE, executed (R6, R43, R52, R56, R57, R62, R166). -/

namespace Sys2Proof.Machine

/-! ### SET_AGENT -/

/-- The agents of the table, tag by tag. -/
theorem agents_toList (v : Vector AgentEntry 16) : v.toList = (List.finRange 16).map (fun i => v[i]) := by
  refine List.ext_getElem (by simp) fun i _ _ => ?_
  simp

/-- An entry is the only MANAGEMENT entry exactly when the entries of MANAGEMENT are those of its tag (R6). -/
theorem onlyManagement_iff (s : State) (t : Tag) :
    s.onlyManagement t = true ↔ ∀ tag : Tag, s.agents[tag].role = .management ↔ tag = t := by
  have hcount : (s.agents.toList.filter (fun a => a.role == .management)).length =
      ((List.finRange 16).filter (fun tag => s.agents[tag].role == .management)).length := by
    rw [agents_toList, List.filter_map, List.length_map]
    rfl
  unfold State.onlyManagement
  rw [hcount, Bool.and_eq_true, beq_iff_eq, beq_iff_eq]
  constructor
  · rintro ⟨ht, hone⟩ tag
    obtain ⟨a, ha⟩ := List.length_eq_one_iff.1 hone
    have hmem : ∀ x : Tag, s.agents[x].role = .management ↔ x = a := fun x => by
      rw [← List.mem_singleton (a := x), ← ha, List.mem_filter, beq_iff_eq]
      exact ⟨fun h => ⟨List.mem_finRange x, h⟩, And.right⟩
    rw [hmem, (hmem t).1 ht]
  · intro h
    refine ⟨(h t).2 rfl, ?_⟩
    have hperm : ((List.finRange 16).filter (fun tag => s.agents[tag].role == .management)).Perm [t] := by
      refine (List.perm_ext_iff_of_nodup ((List.nodup_finRange 16).filter _) (List.nodup_singleton t)).2 fun x => ?_
      rw [List.mem_filter, beq_iff_eq, List.mem_singleton, ← h x]
      exact ⟨And.right, fun hx => ⟨List.mem_finRange x, hx⟩⟩
    exact hperm.length_eq

/-- The code of each role, as SET_AGENT gives it. -/
def roleNumber : Role → Nat
  | .none => 0
  | .frameEngine => 1
  | .modem => 2
  | .management => 3

theorem roleOf_roleNumber (role : Role) : roleOf (roleNumber role) = role := by cases role <;> rfl

/-- The structural checks of a SET_AGENT that leaves a MANAGEMENT entry (R6). -/
theorem judgeSetAgent_ok {s : State} {tag : Tag} {role : Role} {path : Path}
    (hkeeps : role = .management ∨ s.agents[tag].role ≠ .management ∨
      ∃ other : Tag, other ≠ tag ∧ s.agents[other].role = .management) :
    firstBad [(1, 15 < tag.val), (2, 3 < roleNumber role || (roleNumber role != 3 && s.onlyManagement tag)), (3, 7 < path.val)] = none := by
  have htag : ¬ 15 < tag.val := by omega
  have hpath : ¬ 7 < path.val := by omega
  have hthree : ¬ 3 < roleNumber role := by cases role <;> decide
  have hmgmt : (roleNumber role != 3 && s.onlyManagement tag) = false := by
    rw [Bool.and_eq_false_iff]
    rcases hkeeps with h | h | ⟨other, hne, h⟩
    · subst h
      exact .inl rfl
    · exact .inr (Bool.eq_false_iff.2 fun hall => h (((onlyManagement_iff s tag).1 hall tag).2 rfl))
    · exact .inr (Bool.eq_false_iff.2 fun hall => hne (((onlyManagement_iff s tag).1 hall other).1 h))
  simp [firstBad_cons, firstBad_nil, htag, hpath, hthree, hmgmt]

/-! ### SET_TIMING -/

theorem spacingOf_ms (n : Nat) :
    ((spacingOf n).ms != n) = decide (n ≠ 1 ∧ n ≠ 10 ∧ n ≠ 100 ∧ n ≠ 1000) := by
  rw [Bool.eq_iff_iff, bne_iff_ne, decide_eq_true_iff]
  unfold spacingOf
  split
  · change 1000 ≠ n ↔ _
    omega
  split
  · change 100 ≠ n ↔ _
    omega
  split
  · change 10 ≠ n ↔ _
    omega
  · change 1 ≠ n ↔ _
    omega

/-! ### SET_TIME -/

/-- The reference state a SET_TIME leaves (R56). -/
theorem afterSetTime_eq (t : TimeBase) :
    t.afterSetTime =
      match t.lastAccepted with
      | some run => if t.runNs < run + 1100000000 then .acquiring else .free
      | none => .free := by
  unfold TimeBase.afterSetTime
  cases t.lastAccepted <;> rfl

theorem afterSetTime_cases (t : TimeBase) : t.afterSetTime = .acquiring ∨ t.afterSetTime = .free := by
  rw [afterSetTime_eq]
  cases t.lastAccepted with
  | none => exact .inr rfl
  | some run =>
    dsimp only
    split
    · exact .inl rfl
    · exact .inr rfl

/-- A SET_TIME sets the time base and submits its STEP (R53, R56). -/
theorem setTimeOf_eq (sec : BitVec 48) (ns : Nat) (s : State) :
    setTimeOf sec ns s =
      submit
        ⟨.timeEvent, 0, 1,
          stampWord ⟨(s.tb.setTime sec ns).time, s.tb.epoch + 1, if s.tb.afterSetTime = .free then .free else .holdover⟩ 0,
          [(if s.tb.afterSetTime = .free then 0 else 1), 0, BitVec.ofInt 32 s.tb.rate, u32 (s.tb.epoch + 1).toNat,
           (if s.tb.overcapture then 1 else 0)]⟩
        (s.setTb { s.tb.setTime sec ns with overcapture := false }) := by
  unfold setTimeOf timeEvent
  rw [timeReport_eq, reading_eq]
  have href : (s.setTb (s.tb.setTime sec ns)).tb.ref = s.tb.afterSetTime := rfl
  rw [href]
  rcases afterSetTime_cases s.tb with h | h
  · rw [h]
    rfl
  · rw [h]
    rfl

/-! ### SET_DISCIPLINE -/

/-- The state after the clamp of the rate and its record (R43, R57). -/
def State.disciplined (s : State) (d : Discipline) : State := clampEvent s.tb.rate (s.setTb (s.tb.setDiscipline d))

/-- The rate after a SET_DISCIPLINE (R43, R57). -/
def TimeBase.clampedRate (t : TimeBase) (d : Discipline) : Int := max (-(d.rateLimit : Int)) (min t.rate d.rateLimit)

/-- A TIME_EVENT of an error of 0, field by field (R53). -/
theorem timeEvent_zero (cause : TimeCause) (s : State) :
    timeEvent cause 0 s =
      submit
        ⟨.timeEvent, 0,
          (match cause with
           | .step => 1 | .locked => 2 | .unlocked => 3 | .holdover => 4 | .free => 5 | .stray => 6 | .rateClamp => 7),
          stampWord ⟨s.tb.time, s.tb.epoch,
            if s.tb.secondsSet = false then .unset
            else match s.tb.ref with | .free => .free | .acquiring | .holdover => .holdover | .locked => .locked⟩ 0,
          [(match s.tb.ref with | .free => 0 | .acquiring => 1 | .locked => 2 | .holdover => 3), 0, BitVec.ofInt 32 s.tb.rate,
           u32 s.tb.epoch.toNat, (if s.tb.overcapture then 1 else 0)]⟩
        (s.setTb { s.tb with overcapture := false }) := by
  unfold timeEvent
  rw [timeReport_eq, reading_eq]
  cases s.tb.ref <;> rfl

theorem timeEvent_tb (cause : TimeCause) (e : Int) (s : State) :
    (timeEvent cause e s).tb = { s.tb with overcapture := false } := (submit_only ..).tb

/-- The record of a HOLDOVER that ends, of a time base given as a whole (R52, R53). -/
theorem timeEvent_free {s : State} {b : TimeBase} (h : s.tb = b) :
    timeEvent .free 0 (s.setTb { s.tb with ref := .free }) =
      submit
        ⟨.timeEvent, 0, 5, stampWord ⟨b.time, b.epoch, if b.secondsSet = false then .unset else .free⟩ 0,
          [0, 0, BitVec.ofInt 32 b.rate, u32 b.epoch.toNat, (if b.overcapture then 1 else 0)]⟩
        (s.setTb { b with ref := .free, overcapture := false }) := by
  subst h
  exact timeEvent_zero ..

theorem disciplined_of_same {s : State} {d : Discipline} (h : s.tb.clampedRate d = s.tb.rate) :
    s.disciplined d = s.setTb { s.tb with disc := d } := by
  have hset : s.tb.setDiscipline d = { s.tb with disc := d } :=
    congrArg (fun rate => ({ s.tb with disc := d, rate := rate } : TimeBase)) h
  unfold State.disciplined clampEvent
  rw [hset]
  exact if_pos rfl

theorem disciplined_of_clamped {s : State} {d : Discipline} (h : s.tb.clampedRate d ≠ s.tb.rate) :
    s.disciplined d = timeEvent .rateClamp 0 (s.setTb { s.tb with disc := d, rate := s.tb.clampedRate d }) := if_neg h

/-- The time base after the clamp of the rate: its record clears the overcapture flag (R53, R57). -/
theorem disciplined_tb (s : State) (d : Discipline) :
    (s.disciplined d).tb =
      { s.tb with
        disc := d, rate := s.tb.clampedRate d
        overcapture := s.tb.overcapture && s.tb.clampedRate d == s.tb.rate } := by
  by_cases h : s.tb.clampedRate d = s.tb.rate
  · rw [disciplined_of_same h, h, beq_self_eq_true, Bool.and_true]
    rfl
  · rw [disciplined_of_clamped h, beq_false_of_ne h, Bool.and_false]
    unfold timeEvent
    rw [(submit_only ..).tb]
    rfl

/-- A SET_DISCIPLINE ends a HOLDOVER that the new limit has already passed (R52, R57). -/
theorem setDisciplineOf_eq (s : State) (d : Discipline) :
    setDisciplineOf d s =
      if s.tb.ref = .holdover ∧ s.tb.watchMark + d.holdoverLimit * 1000000000 ≤ s.tb.runNs then
        timeEvent .free 0 ((s.disciplined d).setTb { (s.disciplined d).tb with ref := .free })
      else s.disciplined d := by
  have href : (s.disciplined d).tb.ref = s.tb.ref := by rw [disciplined_tb]
  have hends : setDisciplineOf d s = endHoldover (s.disciplined d) := rfl
  rw [hends]
  unfold endHoldover
  by_cases hhold : s.tb.ref = .holdover
  · have hdue : (s.disciplined d).tb.watchDue = true ↔ s.tb.watchMark + d.holdoverLimit * 1000000000 ≤ s.tb.runNs := by
      rw [watchDue_iff, href, hhold, disciplined_tb]
      simp
    rw [href]
    by_cases hlate : s.tb.watchMark + d.holdoverLimit * 1000000000 ≤ s.tb.runNs
    · rw [if_pos ⟨hhold, hdue.2 hlate⟩, if_pos ⟨hhold, hlate⟩, expireWatch_frees (.inr (href.trans hhold))]
    · rw [if_neg fun h => hlate (hdue.1 h.2), if_neg fun h => hlate h.2]
  · rw [href, if_neg fun h => hhold h.1, if_neg fun h => hhold h.1]

/-! ### The obligation -/

/-- Settles O54: each command's checks pass, and its effect is the rule of its own section above. -/
theorem agentAndTimeCommandsTakeEffect : Obligations.AgentAndTimeCommandsTakeEffect := by
  intro s c args h hl b a
  have hl1 : s.cu.lockLevel < 1 := by omega
  refine ⟨fun tag role path hop htag hrole hpath hkeeps => ?agent, fun hop => ?timing, fun hop hns => ?time, fun hop => ?disc⟩
  case agent =>
    have h1 : argNat args 1 = tag.val := htag
    have h2 : argNat args 2 = roleNumber role := hrole.trans (by cases role <;> rfl)
    have h3 : argNat args 3 = path.val := hpath
    have hok : firstBad [(1, 15 < argNat args 1),
        (2, 3 < argNat args 2 || (argNat args 2 != 3 && s.working.onlyManagement (toTag (argNat args 1)))),
        (3, 7 < argNat args 3)] = none := by
      rw [h1, h2, h3, toTag_val]
      exact judgeSetAgent_ok (s := s.working) hkeeps
    have hentry : (⟨roleOf (argNat args 2), toPath (argNat args 3)⟩ : AgentEntry) = ⟨role, path⟩ := by
      rw [h2, h3, roleOf_roleNumber, toPath_val]
    have hset : ∀ (t : Tag) (e : AgentEntry), t = tag → e = ⟨role, path⟩ →
        ({ s.working with agents := s.agents.set t e t.isLt } : State) =
          { s.working with agents := s.agents.set tag ⟨role, path⟩ } := by
      rintro _ _ rfl rfl
      rfl
    have hstate := hset _ _ (h1 ▸ toTag_val tag) hentry
    exact congrArg Host.Outcome.next
      (judge_executed (f := judgeSetAgent args) (a := ⟨.done, 0, 0⟩) h hop rfl hl1 hok rfl hstate rfl rfl)
  case timing =>
    intro p r n
    have hanswer : clampedAnswer [(1, (spacingOf (argNat args 1)).ms != argNat args 1),
          (2, clampNat 0 255 (argNat args 2) != argNat args 2), (3, clampNat 1 255 (argNat args 3) != argNat args 3)] =
        if a 1 ≠ 1 ∧ a 1 ≠ 10 ∧ a 1 ≠ 100 ∧ a 1 ≠ 1000 then ⟨.doneClamped, 1, 0⟩
        else if 255 < a 2 then ⟨.doneClamped, 2, 0⟩
        else if a 3 = 0 ∨ 255 < a 3 then ⟨.doneClamped, 3, 0⟩
        else ⟨.done, 0, 0⟩ := by
      have h2 : (clampNat 0 255 (argNat args 2) != argNat args 2) = decide (255 < a 2) := by
        rw [Bool.eq_iff_iff, bne_iff_ne, decide_eq_true_iff, clampNat_zero]
        change min (a 2) 255 ≠ a 2 ↔ _
        omega
      have h3 : (clampNat 1 255 (argNat args 3) != argNat args 3) = decide (a 3 = 0 ∨ 255 < a 3) := by
        rw [Bool.eq_iff_iff, bne_iff_ne, decide_eq_true_iff]
        change max 1 (min (a 3) 255) ≠ a 3 ↔ _
        omega
      rw [spacingOf_ms, h2, h3, clampedAnswer_cons, clampedAnswer_cons, clampedAnswer_cons, clampedAnswer_nil]
      simp only [decide_eq_true_eq]
      rfl
    have hstate : s.working.setTb (s.working.tb.setTiming (spacingOf (argNat args 1)) (clampNat 0 255 (argNat args 2))
          (clampNat 1 255 (argNat args 3))) =
        s.working.setTb { b with p := p, r := r, s := n, repetition := r, stats := n } := by
      rw [clampNat_zero]
      rfl
    exact congrArg Host.Outcome.next (judge_executed (f := judgeSetTiming args) h hop rfl hl1 firstBad_nil hanswer hstate rfl rfl)
  case time =>
    intro ref t
    have hok : firstBad [(2, billion ≤ argNat args 2)] = none := by
      have hno : ¬ billion ≤ argNat args 2 := not_le.2 hns
      simp [firstBad_cons, firstBad_nil, hno]
    have hanswer : clampedAnswer [(1, clampNat 0 281474976710655 (argNat args 1) != argNat args 1)] =
        if 281474976710655 < a 1 then ⟨.doneClamped, 1, 0⟩ else ⟨.done, 0, 0⟩ := by
      have h1 : (clampNat 0 281474976710655 (argNat args 1) != argNat args 1) = decide (281474976710655 < a 1) := by
        rw [Bool.eq_iff_iff, bne_iff_ne, decide_eq_true_iff, clampNat_zero]
        change min (a 1) 281474976710655 ≠ a 1 ↔ _
        omega
      rw [h1, clampedAnswer_cons, clampedAnswer_nil]
      simp only [decide_eq_true_eq]
      rfl
    have href : s.working.tb.afterSetTime = ref := afterSetTime_eq b
    have hstate := setTimeOf_eq (BitVec.ofNat 48 (clampNat 0 281474976710655 (argNat args 1))) (argNat args 2) s.working
    have htb : ({ s.working.tb.setTime (BitVec.ofNat 48 (clampNat 0 281474976710655 (argNat args 1))) (argNat args 2) with
        overcapture := false } : TimeBase) = t := by
      unfold TimeBase.setTime
      rw [href, clampNat_zero]
      rfl
    have htime : (s.working.tb.setTime (BitVec.ofNat 48 (clampNat 0 281474976710655 (argNat args 1))) (argNat args 2)).time =
        t.time := (congrArg TimeBase.time htb :)
    rw [htb, htime, href] at hstate
    exact congrArg Host.Outcome.next (judge_executed (f := judgeSetTime args) h hop rfl hl1 hok hanswer hstate
      (submit_only ..).offers (congrArg CommandUnit.refusal (submit_only ..).cu))
  case disc =>
    intro d rate clamps
    have hanswer : clampedAnswer clamps =
        match clamps.find? Prod.snd with | some x => ⟨.doneClamped, x.1, 0⟩ | none => ⟨.done, 0, 0⟩ := by
      unfold clampedAnswer
      cases clamps.find? Prod.snd <;> rfl
    have hd : clampDiscipline (givenDiscipline args) = d := by
      unfold clampDiscipline
      rw [clampNat_zero, clampNat_zero]
      rfl
    have hclamps : clampedAnswer
        [(1, (clampDiscipline (givenDiscipline args)).stepThreshold != (givenDiscipline args).stepThreshold),
         (2, (clampDiscipline (givenDiscipline args)).lockWindow != (givenDiscipline args).lockWindow),
         (3, (clampDiscipline (givenDiscipline args)).lockCount != (givenDiscipline args).lockCount),
         (4, (clampDiscipline (givenDiscipline args)).pulseWindow != (givenDiscipline args).pulseWindow),
         (5, (clampDiscipline (givenDiscipline args)).gp != (givenDiscipline args).gp),
         (6, (clampDiscipline (givenDiscipline args)).gf != (givenDiscipline args).gf),
         (7, (clampDiscipline (givenDiscipline args)).rateLimit != (givenDiscipline args).rateLimit),
         (8, (clampDiscipline (givenDiscipline args)).holdoverLimit != (givenDiscipline args).holdoverLimit)] =
        clampedAnswer clamps := by
      rw [hd]
      rfl
    have only := setDisciplineOf_only d s.working
    have hjudge := judge_executed (f := judgeSetDiscipline args) h hop rfl hl1 firstBad_nil (hclamps.trans hanswer)
      (congrArg (setDisciplineOf · s.working) hd) only.offers (congrArg CommandUnit.refusal only.cu)
    refine ⟨_, congrArg Host.Outcome.next hjudge, ?_⟩
    have htb := disciplined_tb s.working d
    have hrate : s.working.tb.clampedRate d = rate := rfl
    rw [hrate] at htb
    have hclamped : s.working.disciplined d =
        if rate = b.rate then s.working.setTb { b with disc := d }
        else timeEvent .rateClamp 0 (s.working.setTb { b with disc := d, rate := rate }) := by
      split
      next hsame => exact disciplined_of_same hsame
      next hother => exact disciplined_of_clamped hother
    rw [timeEvent_zero] at hclamped
    by_cases hends : b.ref = .holdover ∧ b.watchMark + d.holdoverLimit * 1000000000 ≤ b.runNs
    · have hfree := timeEvent_free htb
      have htbFree := (timeEvent_tb .free 0 ((s.working.disciplined d).setTb { (s.working.disciplined d).tb with ref := .free }))
      rw [(setDisciplineOf_eq s.working d).trans (if_pos hends), htbFree]
      refine ⟨(congrArg TimeBase.disc htb :), (congrArg TimeBase.rate htb :), (congrArg TimeBase.time htb :), (congrArg TimeBase.epoch htb :),
        (congrArg TimeBase.prevError htb :), (if_pos hends).symm, fun _ href => ?_, ?_⟩
      · exact RefState.noConfusion (href.trans hends.1)
      · refine Eq.trans ?_ (if_pos hends).symm
        rw [hfree, hclamped]
        rfl
    · rw [(setDisciplineOf_eq s.working d).trans (if_neg hends)]
      exact ⟨(congrArg TimeBase.disc htb :), (congrArg TimeBase.rate htb :), (congrArg TimeBase.time htb :), (congrArg TimeBase.epoch htb :),
        (congrArg TimeBase.prevError htb :), (congrArg TimeBase.ref htb).trans (if_neg hends).symm,
        fun hsame _ => disciplined_of_same hsame, hclamped.trans (if_neg hends).symm⟩

end Sys2Proof.Machine

/-! ## Layouts, windows and installations

SET_LAYOUT with the slots it abandons, SET_WINDOW, and APPLY (R11, R20, R24, R79, R122, R167, R171). -/

namespace Sys2Proof.Machine

/-! ### The layout a SET_LAYOUT gives -/

theorem powerBelow_succ (base top n : Nat) :
    powerBelow base (top + 1) n = powerBelow base top n + if base * 2 ^ (top + 1) ≤ n then 1 else 0 := by
  unfold powerBelow
  rw [List.range_succ, List.filter_append, List.length_append]
  congr 1
  by_cases h : base * 2 ^ (top + 1) ≤ n <;> simp [h]

/-- The largest power not above a value, within its range (R167). -/
theorem powerBelow_spec (base top n : Nat) :
    powerBelow base top n ≤ top ∧ (base * 2 ^ powerBelow base top n ≤ n ∨ powerBelow base top n = 0) ∧
      (n < base * 2 ^ (powerBelow base top n + 1) ∨ powerBelow base top n = top) := by
  induction top with
  | zero => exact ⟨Nat.le_refl 0, .inr rfl, .inr rfl⟩
  | succ top ih =>
    obtain ⟨hle, hlow, hhigh⟩ := ih
    rw [powerBelow_succ]
    by_cases hfits : base * 2 ^ (top + 1) ≤ n
    · have hall : powerBelow base top n = top := by
        refine hhigh.resolve_left fun hlt => ?_
        have hmono : base * 2 ^ (powerBelow base top n + 1) ≤ base * 2 ^ (top + 1) :=
          Nat.mul_le_mul_left _ (Nat.pow_le_pow_right (by decide) (by omega))
        omega
      rw [if_pos hfits, hall]
      exact ⟨Nat.le_refl _, .inl hfits, .inr rfl⟩
    · rw [if_neg hfits, Nat.add_zero]
      refine ⟨by omega, hlow, .inl ?_⟩
      rcases hhigh with hhigh | hall
      · exact hhigh
      · rw [hall]
        exact not_le.1 hfits

/-- The section of the layout that a SET_LAYOUT gives: a power of two between 64 KiB and 4 MiB (R167). -/
theorem layoutOf_section (section_ slot : Nat) :
    ((layoutOf section_ slot).section ≤ section_ ∨ (layoutOf section_ slot).section = 65536) ∧
      (section_ < 2 * (layoutOf section_ slot).section ∨ (layoutOf section_ slot).section = 4194304) := by
  obtain ⟨hle, hlow, hhigh⟩ := powerBelow_spec 65536 6 section_
  have hsection : (layoutOf section_ slot).section = 65536 * 2 ^ powerBelow 65536 6 section_ :=
    congrArg (fun k => 65536 * 2 ^ k) (Nat.mod_eq_of_lt (by omega))
  rw [hsection]
  refine ⟨hlow.imp id fun h => by rw [h]; rfl, hhigh.imp (fun h => ?_) fun h => by rw [h]; rfl⟩
  rw [Nat.pow_succ] at h
  omega

/-- The slot of the layout that a SET_LAYOUT gives: a power of two between 256 and 2048 bytes (R167). -/
theorem layoutOf_slot (section_ slot : Nat) :
    ((layoutOf section_ slot).slot ≤ slot ∨ (layoutOf section_ slot).slot = 256) ∧
      (slot < 2 * (layoutOf section_ slot).slot ∨ (layoutOf section_ slot).slot = 2048) := by
  obtain ⟨hle, hlow, hhigh⟩ := powerBelow_spec 256 3 slot
  have hslot : (layoutOf section_ slot).slot = 256 * 2 ^ powerBelow 256 3 slot :=
    congrArg (fun k => 256 * 2 ^ k) (Nat.mod_eq_of_lt (by omega))
  rw [hslot]
  refine ⟨hlow.imp id fun h => by rw [h]; rfl, hhigh.imp (fun h => ?_) fun h => by rw [h]; rfl⟩
  rw [Nat.pow_succ] at h
  omega

/-! ### The slots a new layout abandons -/

/-- A report reads and moves nothing of the Steering Unit (R176). -/
theorem submit_withSteer (rep : Report) (s : State) (v : Vector SteerRoute 4) :
    submit rep { s with steer := v } = { submit rep s with steer := v } := by
  obtain ⟨rings, list, h⟩ := submit_moves rep s
  have hs := h s rfl rfl
  have hv := h { s with steer := v } rfl rfl
  rw [hs, hv]

theorem reported_withSteer (rs : List Report) (s : State) (v : Vector SteerRoute 4) :
    State.reported { s with steer := v } rs = { s.reported rs with steer := v } := by
  induction rs generalizing s with
  | nil => rfl
  | cons rep rs ih => rw [reported_cons, submit_withSteer, ih, reported_cons]

theorem abandonReport_congr {s t : State} (h : t.tb = s.tb) (r : Route) : t.abandonReport r = s.abandonReport r := by
  unfold State.abandonReport State.reading
  rw [h]

theorem abandonReports_eq (s : State) (r : Route) :
    s.abandonReports r = s.steer[r].openSlots.map (s.abandonReport r) := rfl

/-- A route's count of abandoned slots after some more, none leaving it as it was (R24). -/
def abandonedAfter (count slots : Nat) : Nat := if slots = 0 then count else min 4294967295 (count + slots)

theorem abandonedAfter_succ (count slots : Nat) :
    abandonedAfter (min 4294967295 (count + 1)) slots = abandonedAfter count (slots + 1) := by
  unfold abandonedAfter
  rw [if_neg (Nat.succ_ne_zero _)]
  split <;> omega

/-- Records abandoned one after another, oldest first: their reports and the route's count (R24). -/
theorem foldl_abandon (r : Route) (os : List OpenSlot) (s : State) :
    os.foldl (fun s o => abandon r o s) s =
      (s.reported (os.map (s.abandonReport r))).setSteer r
        { s.steer[r] with abandoned := abandonedAfter s.steer[r].abandoned os.length } := by
  induction os generalizing s with
  | nil =>
    have hsame : s.steer.set r s.steer[r] r.isLt = s.steer := Vector.set_getElem_self r.isLt
    exact (congrArg (fun v => ({ s with steer := v } : State)) hsame).symm
  | cons o os ih =>
    rw [List.foldl_cons, ih, abandon_eq]
    generalize hx : ({ s.steer[r] with abandoned := min 4294967295 (s.steer[r].abandoned + 1) } : SteerRoute) = x
    have hone : submit (s.abandonReport r o) (s.setSteer r x) = (submit (s.abandonReport r o) s).setSteer r x := by
      have hsteer := (submit_only (s.abandonReport r o) s).steer
      unfold State.setSteer
      rw [submit_withSteer, hsteer]
    have hreport : ((submit (s.abandonReport r o) s).setSteer r x).abandonReport r = s.abandonReport r :=
      abandonReport_congr (submit_only (s.abandonReport r o) s).tb r
    have hall : ((submit (s.abandonReport r o) s).setSteer r x).reported (os.map (s.abandonReport r)) =
        (s.reported ((o :: os).map (s.abandonReport r))).setSteer r x := by
      rw [List.map_cons, reported_cons]
      unfold State.setSteer
      rw [reported_withSteer, (reported_only ..).steer]
    rw [hone, hreport, hall, setSteer_same, setSteer_setSteer, ← hx]
    dsimp only
    rw [abandonedAfter_succ]
    rfl

/-- One route's slots abandoned (R20, R24). -/
def abandonRoute (s : State) (r : Route) : State :=
  s.steer[r].openSlots.foldl (fun s o => abandon r o s) (s.setSteer r { s.steer[r] with openSlots := [] })

theorem abandonRoute_eq (s : State) (r : Route) :
    abandonRoute s r =
      (s.reported (s.abandonReports r)).setSteer r
        { s.steer[r] with
          openSlots := [], abandoned := abandonedAfter s.steer[r].abandoned s.steer[r].openSlots.length } := by
  unfold abandonRoute
  rw [foldl_abandon, setSteer_same, abandonReports_eq]
  have hreport : (s.setSteer r { s.steer[r] with openSlots := [] }).abandonReport r = s.abandonReport r := rfl
  rw [hreport]
  unfold State.setSteer
  rw [reported_withSteer]
  have hsteer := (reported_only s (s.steer[r].openSlots.map (s.abandonReport r))).steer
  rw [hsteer]
  simp

theorem abandonRoute_get (s : State) (r k : Route) :
    (abandonRoute s r).steer[k] =
      if r = k then
        { s.steer[k] with
          openSlots := [], abandoned := abandonedAfter s.steer[k].abandoned s.steer[k].openSlots.length }
      else s.steer[k] := by
  rw [abandonRoute_eq, setSteer_get, (reported_only ..).steer]
  split
  next h =>
    subst h
    rfl
  next => rfl

theorem abandonRoute_abandonReports {s : State} {r k : Route} (h : r ≠ k) :
    (abandonRoute s r).abandonReports k = s.abandonReports k := by
  have htb : (abandonRoute s r).tb = s.tb := by
    rw [abandonRoute_eq]
    exact (reported_only ..).tb
  rw [abandonReports_eq, abandonReports_eq, abandonRoute_get, if_neg h, abandonReport_congr htb]

/-- Routes abandoned one after another make their reports in turn (R20). -/
theorem foldl_abandonRoute {rs : List Route} (h : rs.Nodup) (s : State) :
    rs.foldl abandonRoute s =
      { s.reported (rs.flatMap s.abandonReports) with steer := (rs.foldl abandonRoute s).steer } := by
  induction rs generalizing s with
  | nil => rfl
  | cons r rs ih =>
    obtain ⟨hr, hrs⟩ := List.nodup_cons.1 h
    have hreports : rs.flatMap (abandonRoute s r).abandonReports = rs.flatMap s.abandonReports :=
      List.flatMap_congr fun k hk => abandonRoute_abandonReports fun he => hr (he ▸ hk)
    rw [List.foldl_cons, ih hrs, hreports, List.flatMap_cons, reported_append]
    generalize (rs.foldl abandonRoute (abandonRoute s r)).steer = v
    rw [abandonRoute_eq]
    unfold State.setSteer
    rw [reported_withSteer]

/-- Every open slot abandoned, oldest first, route 0 to route 3 (R20, R24). -/
theorem abandonAll_eq (s : State) :
    abandonAll s = { s.reported (allRoutes.flatMap s.abandonReports) with steer := (abandonAll s).steer } :=
  foldl_abandonRoute (by decide) s

theorem abandonAll_get (s : State) (k : Route) :
    (abandonAll s).steer[k] =
      { s.steer[k] with
        openSlots := [], abandoned := abandonedAfter s.steer[k].abandoned s.steer[k].openSlots.length } :=
  foldl_view_once (f := abandonRoute) (view := fun s : State => s.steer[k])
    (g := fun x => { x with openSlots := [], abandoned := abandonedAfter x.abandoned x.openSlots.length }) (l := allRoutes)
    (k := k) (by decide) (mem_allRoutes k) (fun s => (abandonRoute_get s k k).trans (if_pos rfl))
    (fun r _ hr s => (abandonRoute_get s r k).trans (if_neg hr)) s

theorem installLayout_same {l : Layout} {s : State} (h : l = s.layout) : installLayout l s = s := if_pos h

theorem installLayout_other {l : Layout} {s : State} (h : l ≠ s.layout) :
    installLayout l s = { abandonAll s with layout := l, arrivals := Vector.replicate 8 [] } := if_neg h

theorem installLayout_offers (l : Layout) (s : State) : (installLayout l s).offers = s.offers := by
  by_cases h : l = s.layout
  · rw [installLayout_same h]
  · rw [installLayout_other h, abandonAll_eq]
    exact (reported_only ..).offers

theorem installLayout_cu (l : Layout) (s : State) : (installLayout l s).cu = s.cu := by
  by_cases h : l = s.layout
  · rw [installLayout_same h]
  · rw [installLayout_other h, abandonAll_eq]
    exact (reported_only ..).cu

/-- An abandonment of every slot counts none on a route that has none open (R24). -/
theorem abandonedAfter_openSlots (count : Nat) (slots : List OpenSlot) :
    abandonedAfter count slots.length = if slots = [] then count else min 4294967295 (count + slots.length) := by
  unfold abandonedAfter
  simp only [List.length_eq_zero_iff]

/-! ### The window that a SET_WINDOW gives -/

/-- The number of a window kind (R167). -/
def kindCode (k : WindowKind) : Nat :=
  match k with
  | .routeTx => 0
  | .pathTx => 1
  | .pathRx => 2
  | .status => 3
  | .plain => 4

theorem windowKindOf_code (k : WindowKind) : windowKindOf (kindCode k) = k := by cases k <;> rfl

theorem kindCode_le (k : WindowKind) : kindCode k ≤ 4 := by cases k <;> decide

theorem windowOf_eq {args : ArgWords} {w : Window} (henabled : w.enabled = argFlag args 2 0)
    (hkind : argField args 2 8 8 = kindCode w.kind) (hsize : argField args 2 16 8 = w.sizeExp.val)
    (hindex : w.index = (argWord args 2).extractLsb' 24 8) (hswap : w.swap = argFlag args 2 32)
    (hbase : w.base = argAddr args 3) (htrans : w.transBase = argAddr args 4) : windowOf args = w := by
  have hnumber : BitVec.ofNat 8 (argField args 2 24 8) = (argWord args 2).extractLsb' 24 8 := BitVec.ofNat_toNat ..
  have hexp : (⟨w.sizeExp.val % 9, Nat.mod_lt _ (by decide)⟩ : Fin 9) = w.sizeExp :=
    Fin.ext (Nat.mod_eq_of_lt w.sizeExp.isLt)
  unfold windowOf
  rw [hnumber, hkind, windowKindOf_code, ← henabled, ← hindex, ← hswap, ← hbase, ← htrans]
  simp only [hsize, hexp]

theorem Window.mismatched_eq_false {l : Layout} {w : Window} (hroute : w.kind = .routeTx → w.size = l.section)
    (hpath : w.kind = .pathTx → w.size = 4 * l.section) : w.mismatched l = false := by
  unfold Window.mismatched sizeSuits
  cases hkind : w.kind <;> simp [hroute, hpath, hkind]

theorem indexBad_eq_false {k : WindowKind} {i : Nat} (hroute : k = .routeTx → i ≤ 3) (htx : k = .pathTx → i ≤ 7)
    (hrx : k = .pathRx → i ≤ 7) : indexBad k i = false := by
  unfold indexBad
  cases k <;> simp [hroute, htx, hrx]

/-! ### The routes that an APPLY installs -/

/-- A choice taken stands in its route's record, counted where the mode moved (R136). -/
theorem choose_self (r : Route) (c : RouteCause) (q : Option Path) (new : Choice) (s : State) :
    (choose r c q new s).routes[r] =
      { s.routes[r] with
        chosen := new
        modeChanges :=
          if new.mode = s.routes[r].chosen.mode then s.routes[r].modeChanges
          else sat32 (s.routes[r].modeChanges + 1) } := by
  unfold choose
  dsimp only
  split
  next h =>
    subst h
    exact congrArg (fun n => { s.routes[r] with modeChanges := n }) (if_pos rfl).symm
  next =>
    exact (congrArg (fun v : Vector RouteRecord 4 => v[r]) (submit_only ..).routes).trans
      ((setRouteRec_get ..).trans (if_pos rfl))

/-- A route's record after its pending preload is installed, with its selection and its count (R122, R125, R136). -/
def RouteRecord.reinstalled (s : State) (x : RouteRecord) : RouteRecord :=
  if x.pending then
    { x.installed s with
      chosen := s.fullSelection (x.installed s)
      modeChanges :=
        if (s.fullSelection (x.installed s)).mode = x.chosen.mode then x.modeChanges
        else sat32 (x.modeChanges + 1) }
  else x

/-- A full selection reads the live list and the active path of a route (R125). -/
theorem fullSelection_installed (s : State) (x : RouteRecord) :
    s.fullSelection (x.installed s) =
      s.fullSelection { x with live := x.preload.map (fun p => (⟨p, s.paths[p].set.standby⟩ : Candidate)) } := by
  unfold State.fullSelection State.continuing
  rfl

theorem reinstalled_congr {s t : State} (hp : t.paths = s.paths) (he : t.estimator = s.estimator) (x : RouteRecord) :
    x.reinstalled t = x.reinstalled s := by
  unfold RouteRecord.reinstalled RouteRecord.installed
  rw [fullSelection_congr hp he, hp]

theorem routeInstalled_self (s : State) (r : Route) :
    (s.routeInstalled r).routes[r] = s.routes[r].reinstalled s := by
  unfold State.routeInstalled RouteRecord.reinstalled
  split
  · dsimp only
    rw [choose_self, setRouteRec_get, if_pos rfl]
    rfl
  · rfl

/-- What an installation of one route reads besides its record. -/
theorem routeInstalled_reads (s : State) (r : Route) :
    (s.routeInstalled r).paths = s.paths ∧ (s.routeInstalled r).estimator = s.estimator ∧
      (s.routeInstalled r).offers = s.offers ∧ (s.routeInstalled r).cu = s.cu ∧
        (s.routeInstalled r).windows = s.windows := by
  unfold State.routeInstalled
  split
  · have only := choose_only r .listApplied none (s.fullSelection (s.routes[r].installed s))
      (s.setRouteRec r (s.routes[r].installed s))
    exact ⟨only.paths, only.estimator, only.offers, only.cu, only.windows⟩
  · exact ⟨rfl, rfl, rfl, rfl, rfl⟩

theorem installRoutes_eq (s : State) :
    installRoutes s = (((s.routeInstalled 0).routeInstalled 1).routeInstalled 2).routeInstalled 3 := by
  unfold installRoutes allRoutes
  simp only [installRoute_eq]
  rfl

theorem installRoutes_reads (s : State) :
    (installRoutes s).paths = s.paths ∧ (installRoutes s).estimator = s.estimator ∧
      (installRoutes s).offers = s.offers ∧ (installRoutes s).cu = s.cu ∧ (installRoutes s).windows = s.windows := by
  rw [installRoutes_eq]
  simp only [routeInstalled_reads, and_self]

/-- A route's record after an installation of every route: what its own installation makes of it (R122). -/
theorem installRoutes_get (s : State) (k : Route) : (installRoutes s).routes[k] = s.routes[k].reinstalled s := by
  have hreads : ∀ (r : Route) (t : State), t.paths = s.paths ∧ t.estimator = s.estimator →
      (installRoute r t).paths = s.paths ∧ (installRoute r t).estimator = s.estimator := by
    rintro r t ⟨hp, he⟩
    obtain ⟨hpaths, hestimator, -⟩ := routeInstalled_reads t r
    rw [installRoute_eq]
    exact ⟨hpaths.trans hp, hestimator.trans he⟩
  refine foldl_view_once_of (f := fun t r => installRoute r t) (view := fun t : State => t.routes[k])
    (g := RouteRecord.reinstalled s) (I := fun t => t.paths = s.paths ∧ t.estimator = s.estimator) (by decide)
    (mem_allRoutes k) hreads (fun t ht => ?_) (fun r hr t _ => ?_) ⟨rfl, rfl⟩
  · rw [installRoute_eq, routeInstalled_self, reinstalled_congr ht.1 ht.2]
  · rw [installRoute_eq, routeInstalled_other hr]

theorem applied_windows (s : State) : (installRoutes (installWindows s)).windows = (installWindows s).windows := by
  obtain ⟨-, -, -, -, hwindows⟩ := installRoutes_reads (installWindows s)
  exact hwindows

theorem applied_offers (s : State) : (installRoutes (installWindows s)).offers = s.offers := by
  obtain ⟨-, -, hoffers, -⟩ := installRoutes_reads (installWindows s)
  rw [hoffers, installWindows_eq]

theorem applied_cu (s : State) : (installRoutes (installWindows s)).cu = s.cu := by
  obtain ⟨-, -, -, hcu, -⟩ := installRoutes_reads (installWindows s)
  rw [hcu, installWindows_eq]

theorem applied_get (s : State) (k : Route) :
    (installRoutes (installWindows s)).routes[k] = s.routes[k].reinstalled s := by
  have hpaths : (installWindows s).paths = s.paths := by rw [installWindows_eq]
  have hestimator : (installWindows s).estimator = s.estimator := by rw [installWindows_eq]
  have hroutes : (installWindows s).routes = s.routes := by rw [installWindows_eq]
  rw [installRoutes_get, reinstalled_congr hpaths hestimator, hroutes]

theorem windowErrors_eq {s : State} {args : ArgWords} {i : Fin 8} {w : Window} (hi : argNat args 1 = i.val)
    (hw : windowOf args = w) (hkind : argField args 2 8 8 = kindCode w.kind) (hsize : argField args 2 16 8 = w.sizeExp.val)
    (hroute : w.kind = .routeTx → w.size = s.layout.section ∧ w.index.toNat ≤ 3)
    (hpath : w.kind = .pathTx → w.size = 4 * s.layout.section ∧ w.index.toNat ≤ 7)
    (hrx : w.kind = .pathRx → w.index.toNat ≤ 7) (hbase : w.base.toNat % w.size = 0) :
    firstBad (s.windowErrors args) = none := by
  have hindex := indexBad_eq_false (fun h => (hroute h).2) (fun h => (hpath h).2) hrx
  have hfits := Window.mismatched_eq_false (fun h => (hroute h).1) fun h => (hpath h).1
  have hslot : ¬ 7 < i.val := by omega
  have hcode := not_lt.2 (kindCode_le w.kind)
  have hexp : ¬ 8 < w.sizeExp.val := by omega
  unfold State.windowErrors
  rw [hw, hi, hkind, hsize]
  simp [firstBad_cons, firstBad_nil, hindex, hfits, hslot, hcode, hexp, hbase]

/-- Settles O55: the checks pass, and each command makes what it gives effective. -/
theorem layoutAndWindowCommandsTakeEffect : Obligations.LayoutAndWindowCommandsTakeEffect := by
  intro s c args h a
  refine ⟨fun hop hl hfits => ?layout, fun i w hop hl hi henabled hkind hsize hindex hswap hbase htrans hroute hpath hrx haligned =>
    ?window, fun hop => ?apply⟩
  case layout =>
    have hok : firstBad [(1, decide (argNat args 1 < 32 * argNat args 2))] = none := by
      rw [firstBad_cons, decide_eq_false (not_lt.2 hfits)]
      rfl
    refine ⟨layoutOf (a 1) (a 2), installLayout (layoutOf (a 1) (a 2)) s.working, congrArg Host.Outcome.next
      (judge_executed (f := judgeSetLayout args) h hop rfl hl hok ?_ rfl (installLayout_offers ..)
        (congrArg _ (installLayout_cu ..))), (layoutOf_section ..).1, (layoutOf_section ..).2, (layoutOf_slot ..).1,
      (layoutOf_slot ..).2, fun hsame => installLayout_same hsame, fun hother => ?_⟩
    · rw [clampedAnswer_cons, clampedAnswer_cons, clampedAnswer_nil]
      simp only [bne_iff_ne]
      rfl
    · rw [installLayout_other (s := s.working) hother]
      refine ⟨rfl, fun p => Vector.getElem_replicate .., fun r => ?_, ?_⟩
      · rw [← abandonedAfter_openSlots]
        exact abandonAll_get s.working r
      · exact congrArg (fun t : State => { t with layout := layoutOf (a 1) (a 2), arrivals := Vector.replicate 8 [] })
          (abandonAll_eq s.working)
  case window =>
    have hw : windowOf args = w := windowOf_eq henabled hkind hsize hindex hswap hbase htrans
    have hok : firstBad (s.working.windowErrors args) = none :=
      windowErrors_eq (s := s.working) hi hw hkind hsize hroute hpath hrx haligned
    refine congrArg Host.Outcome.next
      (judge_executed (f := judgeSetWindow args) h hop rfl hl hok rfl ?_ rfl rfl)
    have hentry : ∀ j : Fin 8, j = i →
        s.working.setWindowEntry j { s.working.windows[j] with preload := windowOf args, pending := true } =
          s.working.setWindowEntry i { s.windows[i] with preload := w, pending := true } := by
      rintro _ rfl
      rw [hw]
      rfl
    exact hentry _ ((congrArg toPath hi).trans (toPath_val i))
  case apply =>
    have hjudge : judge (· == 0x0E) judgeApply s.quiet =
        (installRoutes (installWindows s.working)).answered c ⟨.done, 0, 0⟩ :=
      judge_opcode h hop rfl (applied_offers s.working) (congrArg _ (applied_cu s.working))
    refine ⟨installRoutes (installWindows s.working), congrArg Host.Outcome.next hjudge, fun i => ?_, fun r hr => ?_,
      fun r hr => ?_, ?_⟩
    · rw [applied_windows, installWindows_eq]
      exact Vector.getElem_map ..
    · rw [applied_get]
      exact if_neg (Bool.eq_false_iff.1 hr)
    · intro x live
      have hget : (installRoutes (installWindows s.working)).routes[r] = _ := (applied_get s.working r).trans (if_pos hr)
      rw [hget, ← sat32_eq]
      have hchosen : s.working.fullSelection (x.installed s.working) = s.fullSelection { x with live := live } :=
        (congrFun (fullSelection_congr (s := s) (t := s.working) rfl rfl) _).trans (fullSelection_installed s x)
      exact ⟨rfl, rfl, rfl, rfl, rfl, rfl, rfl, hchosen, rfl⟩
    · have hwindows : installWindows s.working =
          { s.working with windows := (installRoutes (installWindows s.working)).windows } := by
        rw [applied_windows, installWindows_eq]
      exact (installRoutes_eq _).trans (congrArg
        (fun t : State => (((t.routeInstalled 0).routeInstalled 1).routeInstalled 2).routeInstalled 3) hwindows)

end Sys2Proof.Machine

/-! ## Path settings

SET_PATH, SET_HEALTH and SET_ESTIMATOR, executed (R97, R101, R102, R108, R120, R168, R169). -/

namespace Sys2Proof.Machine

/-! ### A change of a path's standby flag -/

/-- A route's record after the full selection that a change of a path's standby flag brings (R120, R125). -/
def RouteRecord.renamed (s : State) (p : Path) (x : RouteRecord) : RouteRecord :=
  if names x.live p then
    { x with
      chosen := s.fullSelection x
      modeChanges :=
        if (s.fullSelection x).mode = x.chosen.mode then x.modeChanges else sat32 (x.modeChanges + 1) }
  else x

theorem renamed_congr {s t : State} (hp : t.paths = s.paths) (he : t.estimator = s.estimator) (p : Path) (x : RouteRecord) :
    x.renamed t p = x.renamed s p := by
  unfold RouteRecord.renamed
  rw [fullSelection_congr hp he]

theorem reselectNamed_self (p : Path) (s : State) (r : Route) :
    (reselectNamed p s r).routes[r] = s.routes[r].renamed s p := by
  unfold reselectNamed RouteRecord.renamed
  split
  · exact choose_self ..
  · rfl

/-- A route's record after a change of a path's standby flag: the copies first, then its own selection (R120). -/
theorem standbyChanged_get (p : Path) (flag : Bool) (s : State) (k : Route) :
    (standbyChanged p flag s).routes[k] =
      ({ s.routes[k] with live := copyStandby p flag s.routes[k].live } : RouteRecord).renamed s p := by
  have hcopied : (allRoutes.foldl (copyIntoRoute p flag) s).routes[k] =
      { s.routes[k] with live := copyStandby p flag s.routes[k].live } :=
    (foldl_copyIntoRoute_get p flag allRoutes (by decide) s k).trans (if_pos (mem_allRoutes k))
  have only := OnlySelection.foldl (copyIntoRoute_only p flag) allRoutes s
  unfold standbyChanged
  rw [← hcopied]
  refine foldl_view_once_of (f := reselectNamed p) (view := fun t : State => t.routes[k])
    (g := fun x => x.renamed s p) (I := fun t => t.paths = s.paths ∧ t.estimator = s.estimator) (by decide)
    (mem_allRoutes k) (fun r t ht => ?_) (fun t ht => ?_) (fun r hr t _ => reselectNamed_other p t hr) ⟨only.paths, only.estimator⟩
  · exact ⟨(reselectNamed_only p t r).paths.trans ht.1, (reselectNamed_only p t r).estimator.trans ht.2⟩
  · exact (reselectNamed_self p t k).trans (renamed_congr ht.1 ht.2 ..)

theorem renamed_live (s : State) (p : Path) (x : RouteRecord) : (x.renamed s p).live = x.live := by
  unfold RouteRecord.renamed
  split <;> rfl

theorem renamed_chosen {s : State} {p : Path} {x : RouteRecord} (h : names x.live p = true) :
    (x.renamed s p).chosen = s.fullSelection x := by
  unfold RouteRecord.renamed
  rw [if_pos h]

/-! ### The settings of a path -/

theorem writeSettings_paths (p : Path) (x : PathSettings) (s : State) :
    (writeSettings p x s).paths = s.paths.set p { s.paths[p] with set := x } := by
  unfold writeSettings
  dsimp only
  split
  · exact (standbyChanged_only ..).paths
  · rfl

theorem writeSettings_same {p : Path} {x : PathSettings} {s : State} (h : x.standby = s.paths[p].set.standby) :
    writeSettings p x s = s.setPathRec p { s.paths[p] with set := x } := if_neg (not_not.2 h)

theorem writeSettings_other {p : Path} {x : PathSettings} {s : State} (h : x.standby ≠ s.paths[p].set.standby) :
    writeSettings p x s = standbyChanged p x.standby (s.setPathRec p { s.paths[p] with set := x }) := if_pos h

/-- What a SET_PATH's effect can move. -/
theorem writeSettings_frame (p : Path) (x : PathSettings) (s : State) :
    ∃ routes rings list, writeSettings p x s =
      { s with
        paths := s.paths.set p { s.paths[p] with set := x }, routes := routes, rings := rings, writeList := list } := by
  by_cases h : x.standby = s.paths[p].set.standby
  · exact ⟨_, _, _, writeSettings_same h⟩
  · exact ⟨_, _, _, (writeSettings_other h).trans (standbyChanged_only ..)⟩

theorem writeSettings_routes_same {p : Path} {x : PathSettings} {s : State} (h : x.standby = s.paths[p].set.standby) :
    (writeSettings p x s).routes = s.routes := (congrArg State.routes (writeSettings_same h) :)

theorem writeSettings_routes_other {p : Path} {x : PathSettings} {s : State} (h : x.standby ≠ s.paths[p].set.standby)
    (r : Route) :
    (writeSettings p x s).routes[r] =
      ({ s.routes[r] with live := copyStandby p x.standby s.routes[r].live } : RouteRecord).renamed
        (writeSettings p x s) p := by
  have hget : (writeSettings p x s).routes[r] = _ :=
    (congrArg (fun t : State => t.routes[r]) (writeSettings_other h)).trans (standbyChanged_get ..)
  have hestimator : (writeSettings p x s).estimator = s.estimator := by
    obtain ⟨routes, rings, list, hframe⟩ := writeSettings_frame p x s
    rw [hframe]
  exact hget.trans (renamed_congr (s := writeSettings p x s) (t := s.setPathRec p { s.paths[p] with set := x })
    (writeSettings_paths ..).symm hestimator.symm ..)

/-- The number of a path class (R168). -/
def classCode (cls : PathClass) : Nat :=
  match cls with
  | .mw => 0
  | .mmw => 1
  | .fibre => 2

theorem classOf_code (cls : PathClass) : classOf (classCode cls) = cls := by cases cls <;> rfl

theorem classCode_le (cls : PathClass) : classCode cls ≤ 2 := by cases cls <;> decide

theorem settingsOf_eq {args : ArgWords} {cls : PathClass} (h : argField args 2 0 8 = classCode cls) :
    settingsOf args =
      { cls := cls, standby := argFlag args 2 8, txBase := argAddr args 3, rxBase := blockBase (argAddr args 4)
        txLead := min (argNat args 5) 65535, maxDwell := max 1000 (min (argNat args 6) 100000000)
        cutEnable := argFlag args 2 9, behaviour := if argFlag args 2 10 then .pass else .blank
        autoRelease := argFlag args 2 11, asymmetry := max (-1000000) (min (argWord args 7).toInt 1000000) } := by
  unfold settingsOf
  rw [h, classOf_code, clampNat_zero]
  rfl

/-! ### The health settings of a path -/

/-- The expiry of a timer under new health settings (R102, R108). -/
theorem timerExpired_withHealth {run start : Nat} {x : PathRecord} (hs : HealthSettings) (h : x.timer = some start) :
    timerExpired run { x with hs := hs } = decide (start + hs.timeout * 1000000 ≤ run) := by
  unfold timerExpired
  simp only [h]
  rfl

theorem writeHealth_eq (p : Path) (hs : HealthSettings) (s : State) :
    writeHealth p hs s =
      if timerExpired s.tb.runNs { s.paths[p] with hs := hs } then
        expireTimer p (s.setPathRec p { s.paths[p] with hs := hs })
      else s.setPathRec p { s.paths[p] with hs := hs } := by
  unfold writeHealth takeTimer
  rw [setPathRec_get, if_pos rfl]
  rfl

/-- A timeout that is not yet spent leaves the timer as it is (R102, R108). -/
theorem writeHealth_waits {p : Path} {hs : HealthSettings} {s : State}
    (h : ∀ start, s.paths[p].timer = some start → s.tb.runNs < start + hs.timeout * 1000000) :
    writeHealth p hs s = s.setPathRec p { s.paths[p] with hs := hs } := by
  rw [writeHealth_eq]
  refine if_neg (Bool.eq_false_iff.1 ?_)
  cases htimer : s.paths[p].timer with
  | none => exact timerExpired_none htimer
  | some start =>
    rw [timerExpired_withHealth hs htimer]
    exact decide_eq_false (not_le.2 (h start htimer))

/-- A timeout lowered below the time already spent ends the timer at once (R102, R108). -/
theorem writeHealth_expires {p : Path} {hs : HealthSettings} {s : State} {start : Nat}
    (htimer : s.paths[p].timer = some start) (hdue : start + hs.timeout * 1000000 ≤ s.tb.runNs) :
    (writeHealth p hs s).paths[p] =
      judged s.tb.runNs (judgeDown s.paths[p] .statusTimeout) { s.paths[p] with hs := hs, timer := none } := by
  have hexpired : timerExpired s.tb.runNs { s.paths[p] with hs := hs } = true := by
    rw [timerExpired_withHealth hs htimer]
    exact decide_eq_true hdue
  rw [writeHealth_eq, if_pos hexpired, expireTimer_paths, setPathRec_get, if_pos rfl]
  exact Vector.getElem_set_self ..

/-- The expiry takes a path in service to DOWN, and stops the timer of any other (R108). -/
theorem judged_statusTimeout (run : Nat) (x : PathRecord) :
    judged run (judgeDown x .statusTimeout) { x with timer := none } =
      if x.state = .up ∨ x.state = .fading ∨ x.state = .probation then
        { x with
          timer := none, state := .down, lastCause := 8, belowFade := 0, belowDown := 0, aboveRecover := 0 }
      else { x with timer := none } := by
  split
  next hin =>
    rw [judgeDown_of_inService _ hin]
    rfl
  next hout =>
    have hstate : x.state = .down ∨ x.state = .cut ∨ x.state = .disabled := by
      generalize x.state = h at hout ⊢
      cases h <;> simp_all
    rw [judgeDown_of_out _ hstate]
    rfl

theorem writeHealth_paths (p : Path) (hs : HealthSettings) (s : State) :
    ∃ x, (writeHealth p hs s).paths = s.paths.set p x := by
  rw [writeHealth_eq]
  split
  · rw [expireTimer_paths]
    exact ⟨_, Vector.set_set ..⟩
  · exact ⟨_, rfl⟩

theorem writeHealth_only (p : Path) (hs : HealthSettings) (s : State) : OnlyHealth s (writeHealth p hs s) :=
  (setPathRec_only ..).trans (takeTimer_only ..)

/-! ### The estimator -/

theorem writeEstimator_get (e : Estimator) (s : State) (p : Path) :
    (writeEstimator e s).paths[p] =
      if e.maxPlausible < s.estimator.maxPlausible then limitEstimate (16 * e.maxPlausible) s.paths[p] else s.paths[p] := by
  unfold writeEstimator
  dsimp only
  split
  · exact (foldl_limitEstimate_get (16 * e.maxPlausible) allPaths (by decide) { s with estimator := e } p).trans
      (if_pos (mem_allPaths p))
  · rfl

theorem foldl_limitEstimate_frame (limit : Nat) (ps : List Path) (s : State) :
    ∃ paths, ps.foldl (fun s p => s.setPathRec p (limitEstimate limit s.paths[p])) s = { s with paths := paths } := by
  induction ps generalizing s with
  | nil => exact ⟨_, rfl⟩
  | cons p ps ih =>
    obtain ⟨paths, h⟩ := ih (s.setPathRec p (limitEstimate limit s.paths[p]))
    exact ⟨paths, h⟩

theorem writeEstimator_frame (e : Estimator) (s : State) :
    writeEstimator e s = { s with estimator := e, paths := (writeEstimator e s).paths } := by
  obtain ⟨paths, h⟩ : ∃ paths, writeEstimator e s = { s with estimator := e, paths := paths } := by
    unfold writeEstimator
    dsimp only
    split
    · exact foldl_limitEstimate_frame (16 * e.maxPlausible) allPaths { s with estimator := e }
    · exact ⟨_, rfl⟩
  rw [h]

/-! ### The obligation -/

/-- Settles O56: the checks pass, and each command stores what its clamps give. -/
theorem pathCommandsTakeEffect : Obligations.PathCommandsTakeEffect := by
  intro s c args h a
  refine ⟨fun p cls hop hl hp hcls haligned => ?path, fun p hop hl hp => ?health, fun hop hl => ?estimator⟩
  case path =>
    intro asym x
    have hsettings : settingsOf args = x := settingsOf_eq hcls
    have hok : firstBad
        [(1, decide (7 < argNat args 1)), (2, decide (2 < argField args 2 0 8)),
         (7, (settingsOf args).txBase.toNat % (4 * s.working.layout.section) != 0)] = none := by
      have hp' : argNat args 1 = p.val := hp
      have hpath : ¬ 7 < p.val := by omega
      have hclass : argField args 2 0 8 = classCode cls := hcls
      have hcode := not_lt.2 (classCode_le cls)
      have hbase : x.txBase.toNat % (4 * s.working.layout.section) = 0 := haligned
      rw [hp', hclass, hsettings]
      simp [firstBad_cons, firstBad_nil, hpath, hcode, hbase]
    obtain ⟨routes, rings, list, hframe⟩ := writeSettings_frame p x s.working
    have hjudge : judge (· == 0x07) (judgeSetPath args) s.quiet = (writeSettings p x s.working).answered c
        (if x.txLead ≠ a 5 then ⟨.doneClamped, 9, 0⟩ else if x.maxDwell ≠ a 6 then ⟨.doneClamped, 10, 0⟩
          else if x.asymmetry ≠ asym then ⟨.doneClamped, 11, 0⟩ else ⟨.done, 0, 0⟩) := by
      refine judge_executed (f := judgeSetPath args) h hop rfl hl hok ?_ ?_ ?_ ?_
      · rw [hsettings, clampedAnswer_cons, clampedAnswer_cons, clampedAnswer_cons, clampedAnswer_nil]
        simp only [bne_iff_ne]
        rfl
      · rw [hsettings]
        exact congrArg (fun p => writeSettings p x s.working) ((congrArg toPath hp).trans (toPath_val p))
      · rw [hframe]
        rfl
      · rw [hframe]
        rfl
    refine ⟨_, congrArg Host.Outcome.next hjudge, writeSettings_paths .., fun hsame => ?_, fun hother r => ?_, ?_⟩
    · exact writeSettings_routes_same (s := s.working) hsame
    · intro live
      rw [writeSettings_routes_other (s := s.working) hother r]
      exact ⟨renamed_live .., fun hnamed => renamed_chosen hnamed⟩
    · generalize writeSettings p x s.working = t at hframe
      rw [hframe]
  case health =>
    intro signed level down fade0 fade recover x clamps
    have hx : clampHealth (givenHealth args) = x := by
      unfold clampHealth
      rw [clampNat_zero]
      rfl
    have hanswer : clampedAnswer clamps =
        match clamps.find? Prod.snd with | some x => ⟨.doneClamped, x.1, 0⟩ | none => ⟨.done, 0, 0⟩ := by
      unfold clampedAnswer
      cases clamps.find? Prod.snd <;> rfl
    have hclamps : healthClamps (givenHealth args) (clampHealth (givenHealth args)) = clamps := by
      rw [hx]
      rfl
    have only := writeHealth_only p x s.working
    have hok : firstBad [(1, decide (7 < argNat args 1))] = none := by
      have hp' : argNat args 1 = p.val := hp
      have hpath : ¬ 7 < p.val := by omega
      rw [hp', firstBad_cons, decide_eq_false hpath]
      rfl
    have hstate : writeHealth (toPath (argNat args 1)) (clampHealth (givenHealth args)) s.working =
        writeHealth p x s.working := by
      rw [hx]
      exact congrArg (fun p => writeHealth p x s.working) ((congrArg toPath hp).trans (toPath_val p))
    have hjudge := judge_executed (f := judgeSetHealth args) h hop rfl hl hok
      ((congrArg clampedAnswer hclamps).trans hanswer) hstate only.offers (congrArg CommandUnit.refusal only.cu)
    refine ⟨_, congrArg Host.Outcome.next hjudge, fun q hq => ?_, fun hwaits => writeHealth_waits (s := s.working) hwaits,
      fun start htimer hdue => ?_, only⟩
    · obtain ⟨y, hy⟩ := writeHealth_paths p x s.working
      rw [hy]
      exact Vector.getElem_set_ne _ _ fun he => hq (Fin.ext he.symm)
    · rw [writeHealth_expires (s := s.working) htimer hdue]
      exact judged_statusTimeout s.tb.runNs { s.paths[p] with hs := x }
  case estimator =>
    intro e clamps
    have he : estimatorOf args = e := by
      unfold estimatorOf
      rw [clampNat_zero, clampNat_zero]
      rfl
    have hanswer : clampedAnswer clamps =
        match clamps.find? Prod.snd with | some x => ⟨.doneClamped, x.1, 0⟩ | none => ⟨.done, 0, 0⟩ := by
      unfold clampedAnswer
      cases clamps.find? Prod.snd <;> rfl
    have hframe := writeEstimator_frame e s.working
    have hjudge : judge (· == 0x0B) (judgeSetEstimator args) s.quiet = (writeEstimator e s.working).answered c
        (match clamps.find? Prod.snd with | some x => ⟨.doneClamped, x.1, 0⟩ | none => ⟨.done, 0, 0⟩) := by
      refine judge_executed (f := judgeSetEstimator args) h hop rfl hl firstBad_nil (Eq.trans ?_ hanswer) ?_ ?_ ?_
      · rw [he]
      · rw [he]
      · rw [hframe]
        rfl
      · rw [hframe]
        rfl
    refine ⟨_, congrArg Host.Outcome.next hjudge, ?_, fun p => writeEstimator_get e s.working p, hframe⟩
    rw [hframe]

end Sys2Proof.Machine

/-! ## Refused commands

Opcodes that name no command, a failed argument read, and structural errors (R6, R162, R164, R166 to R172). -/

namespace Sys2Proof.Machine

/-! ### Refusals, judged by the first bad argument -/

/-- Two lists of checks name the same first bad argument where each check agrees once the earlier ones pass (R164). -/
theorem firstBad_cons_congr {i : Nat} {b b' : Bool} {l l' : List (Nat × Bool)} (hb : b = b')
    (hl : b = false → firstBad l = firstBad l') : firstBad ((i, b) :: l) = firstBad ((i, b') :: l') := by
  subst hb
  rw [firstBad_cons, firstBad_cons]
  cases b with
  | false => exact hl rfl
  | true => rfl

/-- A command with a structural error, at a level that does not freeze it (R164, step 3). -/
theorem judge_bad {s : State} {c : Command} (h : s.fetched c) {suits : BitVec 8 → Bool} (hs : suits c.opcode = true)
    {level : Nat} {errors : List (Nat × Bool)} {effect : Answer × State} {index : Nat} {f : State → Answer × State}
    (hf : f s.working = checked level errors s.working effect) (hl : s.cu.lockLevel < level)
    (hbad : firstBad errors = some index) : judge suits f s.quiet = s.working.answered c ⟨.badArgument, index, 0⟩ :=
  judge_refused h hs (hf.trans (checked_bad level errors s.working effect hl index hbad))

theorem judge_opcode_bad {s : State} {c : Command} (h : s.fetched c) {op : BitVec 8} (hop : c.opcode = op)
    {level : Nat} {errors : List (Nat × Bool)} {effect : Answer × State} {index : Nat} {f : State → Answer × State}
    (hf : f s.working = checked level errors s.working effect) (hl : s.cu.lockLevel < level)
    (hbad : firstBad errors = some index) :
    judge (· == op) f s.quiet = s.working.answered c ⟨.badArgument, index, 0⟩ :=
  judge_bad (suits := (· == op)) h (beq_iff_eq.2 hop) hf hl hbad

/-- A GENERATE of an event that is out of range is refused by every row (R171). -/
theorem judge_generate_bad {s : State} {c : Command} (h : s.fetched c) {args : ArgWords} (e : TestEvent)
    (hop : c.opcode = 0x10) (hl : s.cu.lockLevel < 1) {index : Nat} (hbad : firstBad [(1, 2 < argNat args 1)] = some index) :
    judge (suitsEvent e args) (judgeGenerate e args) s.quiet = s.working.answered c ⟨.badArgument, index, 0⟩ := by
  have hlarge : 2 < argNat args 1 := by
    by_contra hno
    rw [firstBad_cons, decide_eq_false hno] at hbad
    cases hbad
  have hsuits : suitsEvent e args c.opcode = true := by
    unfold suitsEvent
    simp [hop, hlarge]
  exact judge_bad h hsuits rfl hl hbad

/-- A PATH_ADMIN with a structural error is refused at every level, with the line's level as its value (R171). -/
theorem judge_pathAdmin_bad {s : State} {c : Command} (h : s.fetched c) {args : ArgWords} (act : PathAction)
    (hop : c.opcode = 0x0D) (hact : argNat args 2 = act.code ∨ 3 < argNat args 2) {index : Nat}
    (hbad : firstBad [(1, 7 < argNat args 1), (2, 3 < argNat args 2)] = some index) :
    judge (suitsAction act args) (judgePathAdmin act args) s.quiet =
      s.working.answered c ⟨.badArgument, index, s.cutValue⟩ := by
  have hsuits : suitsAction act args c.opcode = true := by
    unfold suitsAction
    rcases hact with hact | hact <;> simp [hop, hact]
  refine judge_refused h hsuits ?_
  unfold judgePathAdmin
  rw [hbad]
  rfl

/-! ### The checks of single commands -/

/-- The last MANAGEMENT entry, seen over every tag (R6). -/
theorem onlyManagement_eq_all {s : State} {n : Nat} (h : n ≤ 15) :
    s.onlyManagement (toTag n) =
      (List.finRange 16).all (fun tag => (s.agents[tag].role == .management) == (tag.val == n)) := by
  have htag : ∀ tag : Tag, tag = toTag n ↔ tag.val = n := fun tag => by
    rw [Fin.ext_iff]
    unfold toTag
    dsimp only
    omega
  rw [Bool.eq_iff_iff, onlyManagement_iff, List.all_eq_true]
  refine forall_congr' fun tag => ?_
  rw [htag tag, beq_iff_eq, Bool.eq_iff_iff, beq_iff_eq, beq_iff_eq]
  exact ⟨fun hiff _ => hiff, fun hiff => hiff (List.mem_finRange tag)⟩

theorem mismatched_eq {l : Layout} {w : Window} {kind : Nat} (h : kind ≤ 4) (hw : w.kind = windowKindOf kind) :
    w.mismatched l = (kind == 0 && w.size != l.section || kind == 1 && w.size != 4 * l.section) := by
  unfold Window.mismatched sizeSuits
  rw [hw]
  interval_cases kind <;> simp [windowKindOf, bne]

theorem indexBad_eq {kind : Nat} (h : kind ≤ 4) (i : Nat) :
    indexBad (windowKindOf kind) i = (kind == 0 && decide (3 < i) || (kind == 1 || kind == 2) && decide (7 < i)) := by
  interval_cases kind <;> simp [windowKindOf, indexBad]

/-- A SET_WINDOW's checks by the numbers it gives (R167). -/
theorem windowErrors_firstBad (s : State) (args : ArgWords) {kind exp index : Nat} (hkind : argField args 2 8 8 = kind)
    (hexp : argField args 2 16 8 = exp) (hindex : argField args 2 24 8 = index) :
    firstBad (s.windowErrors args) =
      firstBad [(1, 7 < argNat args 1), (3, 4 < kind),
        (4, 8 < exp || (kind == 0 && 65536 * 2 ^ exp != s.layout.section) ||
          (kind == 1 && 65536 * 2 ^ exp != 4 * s.layout.section)),
        (5, (kind == 0 && decide (3 < index)) || ((kind == 1 || kind == 2) && decide (7 < index))),
        (7, (argAddr args 3).toNat % (65536 * 2 ^ exp) != 0)] := by
  have hwkind : (windowOf args).kind = windowKindOf kind := congrArg windowKindOf hkind
  have hwindex : (windowOf args).index.toNat = index := by
    have hsmall : argField args 2 24 8 < 256 := BitVec.isLt _
    rw [hindex] at hsmall
    have hnumber : (windowOf args).index.toNat = argField args 2 24 8 % 256 := BitVec.toNat_ofNat ..
    rw [hnumber, hindex, Nat.mod_eq_of_lt hsmall]
  have hwsize : exp ≤ 8 → (windowOf args).size = 65536 * 2 ^ exp := fun he => by
    have hsize : (windowOf args).size = 65536 * 2 ^ (argField args 2 16 8 % 9) := rfl
    rw [hsize, hexp, Nat.mod_eq_of_lt (by omega)]
  unfold State.windowErrors
  dsimp only
  rw [hkind, hexp, hwkind, hwindex]
  refine firstBad_cons_congr rfl fun _ => firstBad_cons_congr rfl fun hk => ?_
  have hfour : kind ≤ 4 := not_lt.1 (of_decide_eq_false hk)
  refine firstBad_cons_congr ?_ fun hfits => firstBad_cons_congr (indexBad_eq hfour index) fun _ => ?_
  · by_cases he : exp ≤ 8
    · rw [mismatched_eq hfour hwkind, hwsize he, Bool.or_assoc]
    · simp [not_le.1 he]
  · have he : exp ≤ 8 := not_lt.1 (of_decide_eq_false (Bool.or_eq_false_iff.1 hfits).1)
    rw [hwsize he]
    rfl

/-- Settles O53: each row refuses by the first of its checks that fails. -/
theorem badCommandsAndArgumentsAreRefused : Obligations.BadCommandsAndArgumentsAreRefused := by
  intro s c args h a part base refused lastManager size pathNumber badEntry
  have hrefused : ∀ {i : Instr} {v : Word} {checks : List (Nat × Bool)} {t : State}, exec i s = .next t →
      (∀ index, firstBad checks = some index → t = s.working.answered c ⟨.badArgument, index, v⟩) → refused i v checks :=
    fun hexec ht index hbad => hexec.trans (congrArg Host.Outcome.next (ht index hbad))
  refine ⟨fun hop => ?opcode, ?read, fun hl => ⟨fun hop => ?agent, fun hop => ?time, fun hop => ?generate⟩,
    fun hl => ⟨fun hop => ?layout, fun hop => ?window, fun hop => ?path, fun hop => ?ring, fun hop => ?group⟩,
    fun hl => ⟨fun hop => ?health, fun hop => ?route⟩, fun hop => ?admin, fun hop => ?snapshot⟩
  case opcode =>
    have hnone : namesNone c.opcode = true := by
      unfold namesNone
      rcases hop with hop | hop <;> simp [hop]
    exact congrArg Host.Outcome.next (judge_refused h hnone rfl)
  case read =>
    have hargs := argumentsFor_fetched s c h (fun _ => true) rfl
    obtain ⟨-, hidle, hfree, -⟩ := h
    have hreport : memoryError 1 (s.pageBase + 8) 255 s.working =
        submit ⟨.memoryError, 0, 1, stampWord s.reading 0, [s.pageBase + 8, 255]⟩ s.working := rfl
    have hrefusal : argumentError s.quiet =
        answer c (badArgument 0) (memoryError 1 (s.pageBase + 8) 255 s.working) := by
      unfold argumentError
      rw [hargs]
      rfl
    have hanswer := answer_eq c (badArgument 0) (memoryError 1 (s.pageBase + 8) 255 s.working)
      ((congrArg (List.any · Offer.isCommandUnit) (submit_only ..).offers).trans hfree)
      ((congrArg CommandUnit.refusal (submit_only ..).cu).trans hidle)
    exact congrArg Host.Outcome.next (hrefusal.trans (hreport ▸ hanswer))
  case agent =>
    refine hrefused rfl fun index hbad => judge_opcode_bad h hop rfl hl (Eq.trans ?_ hbad)
    refine firstBad_cons_congr rfl fun htag => firstBad_cons_congr ?_ fun _ => rfl
    rw [onlyManagement_eq_all (s := s.working) (not_lt.1 (of_decide_eq_false htag))]
    rfl
  case time => exact hrefused rfl fun index hbad => judge_opcode_bad h hop rfl hl hbad
  case generate =>
    exact ⟨hrefused rfl fun index hbad => judge_generate_bad h .update hop hl hbad,
      hrefused rfl fun index hbad => judge_generate_bad h .refPulse hop hl hbad,
      hrefused rfl fun index hbad => judge_generate_bad h .cut hop hl hbad⟩
  case layout => exact hrefused rfl fun index hbad => judge_opcode_bad h hop rfl hl hbad
  case window =>
    exact hrefused rfl fun index hbad =>
      judge_opcode_bad h hop rfl hl ((windowErrors_firstBad s.working args rfl rfl rfl).trans hbad)
  case path => exact hrefused rfl fun index hbad => judge_opcode_bad h hop rfl hl hbad
  case ring => exact hrefused rfl fun index hbad => judge_opcode_bad h hop rfl hl hbad
  case group => exact hrefused rfl fun index hbad => judge_opcode_bad h hop rfl hl hbad
  case health => exact hrefused rfl fun index hbad => judge_opcode_bad h hop rfl hl hbad
  case route => exact hrefused rfl fun index hbad => judge_opcode_bad h hop rfl hl hbad
  case admin =>
    simp only [List.forall_mem_cons]
    exact ⟨fun hact => hrefused rfl fun index hbad => judge_pathAdmin_bad h .enable hop hact hbad,
      fun hact => hrefused rfl fun index hbad => judge_pathAdmin_bad h .disable hop hact hbad,
      fun hact => hrefused rfl fun index hbad => judge_pathAdmin_bad h .forceDown hop hact hbad,
      fun hact => hrefused rfl fun index hbad => judge_pathAdmin_bad h .releaseCut hop hact hbad,
      fun _ hrow => absurd hrow List.not_mem_nil⟩
  case snapshot =>
    refine hrefused rfl fun index hbad => beginWork_answering h hop ?_
    have hwords : firstBad [(1, decide (3 < argNat args 1)), (2, decide (lastIndex (argNat args 1) < argNat args 2))] =
        some index := hbad
    unfold State.snapshotWork
    rw [hwords]
    rfl

end Sys2Proof.Machine

/-! ## The rank metric and the re-rank

The metric by the view it is taken from, the order of metrics, and the switch of a SINGLE route (R95, R96, R124, R131,
R132). -/

namespace Sys2Proof.Machine

/-! ### The rank metric -/

/-- A fresh TX view gives the metric (R95, R96). -/
theorem metric_of_tx {e : Estimator} {x : PathRecord} {v : TxView} (h : x.tx = some v) (hfresh : v.age ≤ e.reportStale) :
    metric e x = some (rankOf e v.delay v.jitter) := by
  unfold metric
  rw [h]
  exact if_pos hfresh

/-- Without a fresh TX view the RX view gives the metric while it is current (R95, R96). -/
theorem metric_of_rx {e : Estimator} {x : PathRecord} {est : Nat} (htx : ∀ v, x.tx = some v → e.reportStale < v.age)
    (h : x.est = some est) :
    metric e x =
      if x.rxAge ≤ e.reportStale then
        some (rankOf e (((est / 16 : Nat) : Int) + x.set.asymmetry).toNat (x.jit / 16))
      else none := by
  unfold metric
  cases hv : x.tx with
  | none => rw [h]
  | some v =>
    rw [h]
    exact if_neg (not_le.2 (htx v hv))

theorem metric_of_none {e : Estimator} {x : PathRecord} (htx : ∀ v, x.tx = some v → e.reportStale < v.age)
    (h : x.est = none) : metric e x = none := by
  unfold metric
  cases hv : x.tx with
  | none => rw [h]
  | some v =>
    rw [h]
    exact if_neg (not_le.2 (htx v hv))

/-- A known metric ranks before every higher one and before UNKNOWN (R124). -/
theorem ranksBefore_iff (m n : Option Nat) :
    ranksBefore m n = true ↔ ∃ a, m = some a ∧ ∀ b, n = some b → a < b := by
  unfold ranksBefore
  cases m <;> cases n <;> simp

/-! ### The re-rank -/

theorem upCandidates_some (s : State) (live : List Candidate) (standby : Bool) (a : Path) :
    s.upCandidates live standby (some a) =
      (live.filter (fun c => c.standby == standby && s.paths[c.path].state == .up && c.path != a)).map Candidate.path := by
  unfold State.upCandidates
  refine congrArg (List.map Candidate.path) (List.filter_congr fun c _ => ?_)
  have hne : (some a != some c.path) = (c.path != a) := by
    rw [Bool.eq_iff_iff, bne_iff_ne, bne_iff_ne]
    exact ⟨fun h he => h (congrArg some he.symm), fun h he => h (Option.some.inj he).symm⟩
  rw [hne]

theorem rerank_of_mode {r : Route} {s : State} (h : s.routes[r].chosen.mode ≠ .single) : rerank r s = s := by
  unfold rerank
  dsimp only
  split
  next hsingle _ => exact absurd hsingle h
  next => rfl

theorem rerank_of_none {r : Route} {s : State} {a : Path} (h : s.routes[r].chosen = ⟨.single, some a, none⟩)
    (hb : s.bestUp s.routes[r].live false (some a) = none) : rerank r s = s := by
  unfold rerank
  dsimp only
  rw [h]
  dsimp only
  rw [hb]

theorem rerank_of_some {r : Route} {s : State} {a b : Path} (h : s.routes[r].chosen = ⟨.single, some a, none⟩)
    (hb : s.bestUp s.routes[r].live false (some a) = some b) :
    rerank r s =
      if switches s.estimator.switchMargin (s.metricOf a) (s.metricOf b) then
        choose r .rerank none ⟨.single, some b, none⟩ s
      else s := by
  unfold rerank
  dsimp only
  rw [h]
  dsimp only
  rw [hb]

/-- A switch needs a known metric, lower than a known one by more than the margin (R132). -/
theorem switches_iff (margin : Nat) (active other : Option Nat) :
    switches margin active other = true ↔ ∃ m, other = some m ∧ ∀ n, active = some n → m + margin < n := by
  unfold switches
  cases active <;> cases other <;> simp

/-- Settles O35: the metric by its view, the order of metrics, and the re-rank by its best other candidate. -/
theorem reRankNeedsMoreThanTheMargin : Obligations.ReRankNeedsMoreThanTheMargin := by
  refine ⟨fun s p => ?metric, ranksBefore_iff, fun s r hmode => rerank_of_mode hmode, fun s r a hchosen => ?rerank⟩
  case metric =>
    intro x e
    refine ⟨fun v hv hfresh => metric_of_tx hv hfresh, fun htx => ⟨fun est hest hcurrent => ?_, fun hnone => ?_⟩⟩
    · have hclamp : (max 0 (((est / 16 : Nat) : Int) + x.set.asymmetry)).toNat =
          (((est / 16 : Nat) : Int) + x.set.asymmetry).toNat := by omega
      rw [hclamp]
      exact (metric_of_rx htx hest).trans (if_pos hcurrent)
    · rcases hest : x.est with _ | est
      · exact metric_of_none htx hest
      · exact (metric_of_rx htx hest).trans
          (if_neg (not_le.2 (hnone.resolve_left fun hno => Option.some_ne_none est (hest.symm.trans hno))))
  case rerank =>
    intro others
    have hothers : s.bestUp s.routes[r].live false (some a) = s.best others :=
      congrArg s.best (upCandidates_some ..)
    refine ⟨fun b m hb hm hmargin => ?_, fun hstays => ?_⟩
    · have hswitch : rerank r s = choose r .rerank none ⟨.single, some b, none⟩ s :=
        (rerank_of_some hchosen (hothers.trans hb)).trans (if_pos ((switches_iff ..).2 ⟨m, hm, hmargin⟩))
      rw [hswitch, choose_self]
      exact ⟨rfl, rfl⟩
    · rcases hstays with hnone | ⟨b, hb, hlow⟩
      · exact rerank_of_none hchosen (hothers.trans ((best_eq_none_iff ..).2 hnone))
      · refine (rerank_of_some hchosen (hothers.trans hb)).trans (if_neg fun hswitch => ?_)
        obtain ⟨m, hm, hmargin⟩ := (switches_iff ..).1 hswitch
        rcases hlow with hunknown | ⟨m', n, hm', hn, hle⟩
        · exact Option.some_ne_none m (hm.symm.trans hunknown)
        · obtain rfl : m' = m := Option.some.inj (hm'.symm.trans hm)
          exact absurd (hmargin n hn) (not_lt.2 hle)

end Sys2Proof.Machine

/-! ## Targets and probes

The search from the cursor, and the targets of a slot by the mode of its route (R133, R134). -/

namespace Sys2Proof.Machine

/-! ### The search from the cursor -/

/-- The position a search begins at (R134). -/
def searchStart (live : List Candidate) (cursor : Nat) : Nat := if cursor < live.length then cursor else 0

/-- The candidates in the order of a search, with their positions: the list turned to the cursor. -/
theorem searchFrom_eq (live : List Candidate) (cursor : Nat) (suits : Candidate → Bool) :
    searchFrom live cursor suits =
      ((live.zipIdx.rotate (searchStart live cursor)).find? (fun x => suits x.1)).map
        (fun x => (x.1.path, if x.2 + 1 < live.length then x.2 + 1 else 0)) := by
  have hturn : live.zipIdx.drop (searchStart live cursor) ++ live.zipIdx.take (searchStart live cursor) =
      live.zipIdx.rotate (searchStart live cursor) := by
    refine (List.rotate_eq_drop_append_take ?_).symm
    unfold searchStart
    rw [List.length_zipIdx]
    split <;> omega
  unfold searchFrom
  dsimp only
  rw [show (if cursor < live.length then cursor else 0) = searchStart live cursor from rfl, hturn]
  generalize (live.zipIdx.rotate (searchStart live cursor)).find? (fun x => suits x.1) = found
  cases found <;> rfl

/-- What a search looks at in its turn (R134). -/
theorem zipIdx_rotate_get {live : List Candidate} {start turn : Nat} (h : turn < live.length) :
    (live.zipIdx.rotate start)[turn]? =
      live[(start + turn) % live.length]?.map (fun c => (c, (start + turn) % live.length)) := by
  rw [List.getElem?_rotate (by simpa using h), List.length_zipIdx, List.getElem?_zipIdx, Nat.add_comm turn start]
  simp

/-- A search that finds nothing has looked at every candidate (R134). -/
theorem searchFrom_eq_none_iff (live : List Candidate) (cursor : Nat) (suits : Candidate → Bool) :
    searchFrom live cursor suits = none ↔ ∀ c ∈ live, suits c = false := by
  rw [searchFrom_eq, Option.map_eq_none_iff, List.find?_eq_none]
  constructor
  · intro h c hc
    obtain ⟨i, hi, rfl⟩ := List.getElem_of_mem hc
    have hmem : (live[i], i) ∈ live.zipIdx.rotate (searchStart live cursor) := by
      rw [List.mem_rotate, List.mem_zipIdx_iff_getElem?, List.getElem?_eq_getElem hi]
    exact Bool.eq_false_iff.2 (h _ hmem)
  · rintro h ⟨c, i⟩ hmem
    rw [List.mem_rotate] at hmem
    exact Bool.eq_false_iff.1 (h c (List.fst_mem_of_mem_zipIdx hmem))

/-- A search takes the first candidate that suits, and moves the cursor past it (R134). -/
theorem searchFrom_eq_some {live : List Candidate} {cursor : Nat} {suits : Candidate → Bool} {q : Path} {next : Nat}
    (h : searchFrom live cursor suits = some (q, next)) :
    ∃ (turn : Nat) (c : Candidate), turn < live.length ∧
      live[(searchStart live cursor + turn) % live.length]? = some c ∧ c.path = q ∧ suits c = true ∧
      next = ((searchStart live cursor + turn) % live.length + 1) % live.length ∧
      ∀ earlier, earlier < turn → ∀ d, live[(searchStart live cursor + earlier) % live.length]? = some d →
        suits d = false := by
  rw [searchFrom_eq, Option.map_eq_some_iff] at h
  obtain ⟨⟨c, i⟩, hfind, hout⟩ := h
  obtain ⟨hsuits, turn, hturn, hget, hearlier⟩ := List.find?_eq_some_iff_getElem.1 hfind
  have hlen : turn < live.length := by simpa using hturn
  have hat := zipIdx_rotate_get (start := searchStart live cursor) hlen
  rw [List.getElem?_eq_getElem hturn, hget] at hat
  obtain ⟨d, hd, hdc⟩ := Option.map_eq_some_iff.1 hat.symm
  obtain ⟨rfl, rfl⟩ := Prod.mk.inj hdc
  obtain ⟨hpath, hnext⟩ := Prod.mk.inj hout
  refine ⟨turn, d, hlen, hd, hpath, hsuits, ?_, fun e he x hx => ?_⟩
  · have hpos : (searchStart live cursor + turn) % live.length < live.length := Nat.mod_lt _ (by omega)
    rw [← hnext]
    dsimp only
    split
    next hlt => exact (Nat.mod_eq_of_lt hlt).symm
    next hge =>
      have hend : (searchStart live cursor + turn) % live.length + 1 = live.length := by omega
      rw [hend, Nat.mod_self]
  · have hno := hearlier e he
    have hx' := zipIdx_rotate_get (live := live) (start := searchStart live cursor) (he.trans hlen)
    rw [hx, List.getElem?_eq_getElem (he.trans hturn)] at hx'
    rw [Option.some.inj hx'] at hno
    simpa using hno

/-! ### Targets -/

theorem setRouteRec_self (s : State) (r : Route) : s.setRouteRec r s.routes[r] = s :=
  (congrArg (fun v => ({ s with routes := v } : State)) (Vector.set_getElem_self r.isLt) :)

/-- The targets of a slot on a route in SINGLE or FALLBACK: the active path and a probe (R133). -/
theorem targets_probed {s : State} {r : Route} {a : Path} {mode : Mode} (h : s.routes[r].chosen = ⟨mode, some a, none⟩)
    (hmode : mode = .single ∨ mode = .fallback) {extra : Option Path} {rt : RouteRecord}
    (hprobe : s.probe s.routes[r] a = (extra, rt)) :
    s.targets r = (some ⟨a, extra.map (fun q => (.probe, q))⟩, s.setRouteRec r rt) := by
  unfold State.targets
  dsimp only
  rcases hmode with rfl | rfl <;> rw [h] <;> dsimp only <;> rw [hprobe]

/-- Whether a candidate of a route with active `a` may be probed as one on probation, or as one in use (R134). -/
def State.onProbation (s : State) (a : Path) (c : Candidate) : Bool := c.path != a && s.paths[c.path].state == .probation

def State.usable (s : State) (a : Path) (c : Candidate) : Bool :=
  c.path != a && (s.paths[c.path].state == .up || s.paths[c.path].state == .fading)

theorem probe_probation {s : State} {rt : RouteRecord} {a q : Path} {next : Nat}
    (h : searchFrom rt.live rt.cursor (s.onProbation a) = some (q, next)) :
    s.probe rt a = (some q, { rt with cursor := next }) := by
  unfold State.onProbation at h
  unfold State.probe
  rw [h]

theorem probe_remeasures {s : State} {rt : RouteRecord} {a q : Path} {next : Nat}
    (h : searchFrom rt.live rt.cursor (s.onProbation a) = none) (hdue : 0 < rt.interval ∧ rt.countdown = 0)
    (hfound : searchFrom rt.live rt.cursor (s.usable a) = some (q, next)) :
    s.probe rt a = (some q, { rt with cursor := next, countdown := rt.interval }) := by
  unfold State.onProbation at h
  unfold State.usable at hfound
  unfold State.probe
  rw [h, hfound]
  exact if_pos hdue

theorem probe_none {s : State} {rt : RouteRecord} {a : Path}
    (h : searchFrom rt.live rt.cursor (s.onProbation a) = none)
    (hidle : ¬ (0 < rt.interval ∧ rt.countdown = 0) ∨ searchFrom rt.live rt.cursor (s.usable a) = none) :
    s.probe rt a = (none, rt) := by
  unfold State.onProbation at h
  unfold State.usable at hidle
  unfold State.probe
  rw [h]
  dsimp only
  split
  next hdue => rw [hidle.resolve_left (not_not.2 hdue)]
  next => rfl

/-- Settles O34: the search by its turn of the list, and the targets by the mode. -/
theorem targetsFollowTheMode : Obligations.TargetsFollowTheMode := by
  refine ⟨fun live cursor suits => ⟨searchFrom_eq_none_iff .., fun q next h => searchFrom_eq_some h⟩, fun s r => ?_⟩
  intro rt
  refine ⟨targets_dark, fun a b hchosen => ?mirror, fun a mode hchosen hmode => ?probed⟩
  case mirror =>
    have hchosen' : s.routes[r].chosen = ⟨.mirror, some a, some b⟩ := hchosen
    unfold State.targets
    dsimp only
    rw [hchosen']
    rfl
  case probed =>
    refine ⟨fun q next h => targets_probed hchosen hmode (probe_probation h), fun hno hpos hzero q next h =>
      targets_probed hchosen hmode (probe_remeasures hno ⟨hpos, hzero⟩ h), fun hno hidle => ?_⟩
    have htargets := targets_probed hchosen hmode (probe_none hno hidle)
    rwa [setRouteRec_self] at htargets

end Sys2Proof.Machine

/-! ## Selection

The best of some candidates, the five cases of a full selection, the reselections of each mode, and a change of a route's
choice (R112, R116, R124 to R130, R136, R137). -/

namespace Sys2Proof.Machine

/-! ### The best of some candidates -/

theorem ranksBefore_irrefl (m : Option Nat) : ranksBefore m m = false := by
  cases m <;> simp [ranksBefore]

theorem ranksBefore_asymm {m n : Option Nat} (h : ranksBefore m n = true) : ranksBefore n m = false := by
  cases m <;> cases n <;> simp_all [ranksBefore]
  omega

/-- What does not rank before a second, which does not rank before a third, does not rank before the third (R124). -/
theorem not_ranksBefore_trans {l m n : Option Nat} (hlm : ranksBefore l m = false) (hmn : ranksBefore m n = false) :
    ranksBefore l n = false := by
  cases l <;> cases m <;> cases n <;> simp_all [ranksBefore]
  omega

theorem best_cons_of_some {s : State} {p q : Path} {ps : List Path} (h : s.best ps = some q) :
    s.best (p :: ps) = if ranksBefore (s.metricOf q) (s.metricOf p) then some q else some p := by
  rw [State.best, h]

/-- The best is the first of those that none ranks before (R124). -/
theorem best_spec {s : State} {ps : List Path} {q : Path} (h : s.best ps = some q) :
    ∃ i : Nat, ps[i]? = some q ∧ (∀ p ∈ ps, ranksBefore (s.metricOf p) (s.metricOf q) = false) ∧
      ∀ (j : Nat) p, j < i → ps[j]? = some p → ranksBefore (s.metricOf q) (s.metricOf p) = true := by
  induction ps generalizing q with
  | nil => exact absurd h (by simp [State.best])
  | cons p ps ih =>
    cases hrest : s.best ps with
    | none =>
      obtain rfl := (best_eq_none_iff ..).1 hrest
      obtain rfl : p = q := Option.some.inj h
      exact ⟨0, rfl, fun x hx => List.mem_singleton.1 hx ▸ ranksBefore_irrefl _, fun j _ hj => absurd hj (Nat.not_lt_zero j)⟩
    | some b =>
      obtain ⟨i, hi, hleast, hfirst⟩ := ih hrest
      rw [best_cons_of_some hrest] at h
      split at h
      next hbefore =>
        obtain rfl : b = q := Option.some.inj h
        refine ⟨i + 1, hi, fun x hx => ?_, fun j x hj hx => ?_⟩
        · rcases List.mem_cons.1 hx with rfl | hx
          · exact ranksBefore_asymm hbefore
          · exact hleast x hx
        · cases j with
          | zero =>
            obtain rfl : p = x := Option.some.inj hx
            exact hbefore
          | succ j => exact hfirst j x (Nat.lt_of_succ_lt_succ hj) hx
      next hnot =>
        obtain rfl : p = q := Option.some.inj h
        refine ⟨0, rfl, fun x hx => ?_, fun j _ hj => absurd hj (Nat.not_lt_zero j)⟩
        rcases List.mem_cons.1 hx with rfl | hx
        · exact ranksBefore_irrefl _
        · exact not_ranksBefore_trans (hleast x hx) (Bool.eq_false_iff.2 hnot)

/-! ### The full selection -/

theorem upCandidates_none (s : State) (live : List Candidate) (standby : Bool) :
    s.upCandidates live standby none =
      (live.filter (fun c => c.standby == standby && s.paths[c.path].state == .up)).map Candidate.path := by
  unfold State.upCandidates
  refine congrArg (List.map Candidate.path) (List.filter_congr fun c _ => ?_)
  have hne : (none != some c.path) = true := rfl
  rw [hne, Bool.and_true]

theorem continuing_iff (s : State) (rt : RouteRecord) (a : Path) :
    s.continuing rt = some a ↔
      rt.chosen.active = some a ∧ (∃ c ∈ rt.live, c.path = a ∧ c.standby = false) ∧ s.paths[a].state = .fading := by
  have hnames : ∀ b, namesAs rt.live b false = true ↔ ∃ c ∈ rt.live, c.path = b ∧ c.standby = false := fun b => by
    unfold namesAs
    rw [List.any_eq_true]
    simp only [Bool.and_eq_true, beq_iff_eq]
  unfold State.continuing
  cases hactive : rt.chosen.active with
  | none => simp
  | some b =>
    dsimp only
    by_cases hkeeps : (namesAs rt.live b false && s.paths[b].state == .fading) = true
    · rw [if_pos hkeeps]
      rw [Bool.and_eq_true, hnames, beq_iff_eq] at hkeeps
      refine ⟨fun h => ?_, fun h => h.1⟩
      obtain rfl : b = a := Option.some.inj h
      exact ⟨rfl, hkeeps.1, hkeeps.2⟩
    · rw [if_neg hkeeps]
      refine ⟨fun h => absurd h (by simp), fun ⟨h, hnamed, hfading⟩ => absurd ?_ hkeeps⟩
      obtain rfl : b = a := Option.some.inj h
      rw [Bool.and_eq_true, hnames, beq_iff_eq]
      exact ⟨hnamed, hfading⟩

theorem continuing_eq_none {s : State} {rt : RouteRecord} (h : ∀ a, s.continuing rt ≠ some a) : s.continuing rt = none :=
  Option.eq_none_iff_forall_ne_some.2 h

theorem fullSelection_single {s : State} {rt : RouteRecord} {a : Path} (h : s.bestUp rt.live false none = some a) :
    s.fullSelection rt = ⟨.single, some a, none⟩ := by
  unfold State.fullSelection
  rw [h]

theorem fullSelection_continuing {s : State} {rt : RouteRecord} {a : Path} (h : s.bestUp rt.live false none = none)
    (hkeeps : s.continuing rt = some a) :
    s.fullSelection rt =
      match s.bestUp rt.live true none with
      | some q => ⟨.mirror, some a, some q⟩
      | none => ⟨.single, some a, none⟩ := by
  unfold State.fullSelection
  rw [h, hkeeps]
  cases s.bestUp rt.live true none <;> rfl

theorem fullSelection_standby {s : State} {rt : RouteRecord} (h : s.bestUp rt.live false none = none)
    (hkeeps : s.continuing rt = none) :
    s.fullSelection rt =
      match s.bestUp rt.live true none with
      | some q => ⟨.fallback, some q, none⟩
      | none => ⟨.dark, none, none⟩ := by
  unfold State.fullSelection
  rw [h, hkeeps]
  cases s.bestUp rt.live true none <;> rfl

/-! ### The reselections -/

theorem secondaryFor_eq (s : State) (live : List Candidate) (a : Path) :
    s.secondaryFor live a = (s.bestUp live false (some a)).or (s.bestUp live true (some a)) := by
  unfold State.secondaryFor
  cases s.bestUp live false (some a) <;> rfl

theorem lost_eq (h : Health) : h.lost = (h == .down || h == .cut || h == .disabled) := by cases h <;> rfl

/-- A SINGLE route at a change of a path it names (R127). -/
theorem reselection_single {s : State} {rt : RouteRecord} {a : Path} (h : rt.chosen = ⟨.single, some a, none⟩) (q : Path)
    (old new : Health) :
    s.reselection rt q old new =
      if q = a then
        if new.lost then some (.activeLost, s.fullSelection rt)
        else if old = .up ∧ new = .fading then some (.activeFading, s.mirrorOrSingle rt.live a)
        else none
      else if new = .up ∧ s.paths[a].state = .fading then some (.candidateUp, s.mirrorOrSingle rt.live a)
      else none := by
  unfold State.reselection State.reselectSingle
  rw [h]

/-- A MIRROR route at a change of a path it names (R128). -/
theorem reselection_mirror {s : State} {rt : RouteRecord} {a b : Path} (h : rt.chosen = ⟨.mirror, some a, some b⟩) (q : Path)
    (old new : Health) :
    s.reselection rt q old new =
      if q = a then
        if new.lost then some (.activeLost, s.fullSelection rt)
        else if new = .up then some (.activeRecovered, ⟨.single, some a, none⟩)
        else none
      else if q = b then
        if old = .up ∧ new ≠ .up then some (.secondaryLost, s.mirrorOrSingle rt.live a) else none
      else if new = .up ∧ namesAs rt.live b true = true ∧ namesAs rt.live q false = true then
        some (.secondaryImproved, ⟨.mirror, some a, s.bestUp rt.live false (some a)⟩)
      else none := by
  unfold State.reselection State.reselectMirror
  rw [h]

/-- A FALLBACK route at a change of a path it names (R129). -/
theorem reselection_fallback {s : State} {rt : RouteRecord} {a : Path} (h : rt.chosen = ⟨.fallback, some a, none⟩) (q : Path)
    (old new : Health) :
    s.reselection rt q old new = if q = a ∧ new ≠ .up then some (.activeLost, s.fullSelection rt) else none := by
  have hactive : (some a = some q ∧ new ≠ .up) ↔ (q = a ∧ new ≠ .up) :=
    and_congr_left' ⟨fun he => (Option.some.inj he).symm, fun he => congrArg some he.symm⟩
  unfold State.reselection State.reselectFallback
  rw [h]
  exact if_congr hactive rfl rfl

/-- A DARK route at a change of a path it names (R130). -/
theorem reselection_dark {s : State} {rt : RouteRecord} (h : rt.chosen = ⟨.dark, none, none⟩) (q : Path) (old new : Health) :
    s.reselection rt q old new = if new = .up then some (.candidateUp, s.fullSelection rt) else none := by
  unfold State.reselection State.reselectDark
  rw [h]

/-! ### A change of a route's choice -/

theorem choose_unchanged {r : Route} {c : RouteCause} {q : Option Path} {new : Choice} {s : State}
    (h : new = s.routes[r].chosen) : choose r c q new s = s := if_pos h

theorem choose_changed {r : Route} {c : RouteCause} {q : Option Path} {new : Choice} {s : State}
    (h : new ≠ s.routes[r].chosen) :
    choose r c q new s =
      submit (s.routeChange r c q s.routes[r].chosen new)
        (s.setRouteRec r
          { s.routes[r] with
            chosen := new
            modeChanges :=
              if new.mode = s.routes[r].chosen.mode then s.routes[r].modeChanges
              else sat32 (s.routes[r].modeChanges + 1) }) := if_neg h

theorem reselectRoute_eq (q : Path) (old new : Health) (r : Route) (s : State) :
    reselectRoute q old new r s =
      if names s.routes[r].live q then
        match s.reselection s.routes[r] q old new with
        | some (cause, c) => choose r cause (some q) c s
        | none => s
      else s := rfl

theorem reselect_eq (q : Path) (old new : Health) (s : State) :
    reselect q old new s =
      reselectRoute q old new 3 (reselectRoute q old new 2 (reselectRoute q old new 1 (reselectRoute q old new 0 s))) := by
  unfold reselect allRoutes
  simp only [List.foldl_cons, List.foldl_nil]

/-- Settles O33: the best by its place, the full selection by its five cases, and the reselections by the mode. -/
theorem fullSelectionTakesTheFirstCase : Obligations.FullSelectionTakesTheFirstCase := by
  refine ⟨fun s ps => ⟨best_eq_none_iff s ps, fun q h => best_spec h⟩, fun s rt => ?full, fun s rt q old new => ?tables,
    fun s r cause causing new => ?choice, fun s q old new cause => ⟨fun r => reselectRoute_eq .., reselect_eq .., ?enters⟩⟩
  case full =>
    intro up keeps
    have hup : ∀ b, s.bestUp rt.live b none = s.best (up b) := fun b => congrArg s.best (upCandidates_none ..)
    have hnone : ∀ b, up b = [] → s.bestUp rt.live b none = none := fun b h => (hup b).trans ((best_eq_none_iff ..).2 h)
    have hsome : ∀ b, up b ≠ [] → ∃ q, s.best (up b) = some q ∧ s.bestUp rt.live b none = some q := fun b h => by
      obtain ⟨q, hq⟩ := Option.ne_none_iff_exists'.1 fun hno => h ((best_eq_none_iff ..).1 hno)
      exact ⟨q, hq, (hup b).trans hq⟩
    refine ⟨fun h => ?_, fun h a ha => ⟨fun h' => ?_, fun h' => ?_⟩, fun h hno => ⟨fun h' => ?_, fun h' => ?_⟩⟩
    · obtain ⟨q, hq, hbest⟩ := hsome false h
      rw [fullSelection_single hbest, hq]
    · obtain ⟨q, hq, hbest⟩ := hsome true h'
      rw [fullSelection_continuing (hnone false h) ((continuing_iff ..).2 ha), hbest, hq]
    · rw [fullSelection_continuing (hnone false h) ((continuing_iff ..).2 ha), hnone true h']
    · obtain ⟨q, hq, hbest⟩ := hsome true h'
      rw [fullSelection_standby (hnone false h) (continuing_eq_none fun a ha => hno a ((continuing_iff ..).1 ha)), hbest, hq]
    · rw [fullSelection_standby (hnone false h) (continuing_eq_none fun a ha => hno a ((continuing_iff ..).1 ha)),
        hnone true h']
  case tables =>
    intro ups named mirrored lost full
    have hups : ∀ b a, s.bestUp rt.live b (some a) = s.best (ups b a) := fun b a => congrArg s.best (upCandidates_some ..)
    have hmirrored : ∀ a, s.mirrorOrSingle rt.live a = mirrored a := fun a => by
      have hsecond : s.secondaryFor rt.live a = (s.best (ups false a)).or (s.best (ups true a)) := by
        rw [secondaryFor_eq, hups, hups]
      exact congrArg (fun found : Option Path =>
        match found with
        | some b => (⟨.mirror, some a, some b⟩ : Choice)
        | none => ⟨.single, some a, none⟩) hsecond
    refine ⟨fun a h => ?_, fun a b h => ?_, fun a h => reselection_fallback h q old new, fun h => reselection_dark h q old new⟩
    · rw [reselection_single h, hmirrored, lost_eq]
    · rw [reselection_mirror h, hmirrored, lost_eq, hups]
      rfl
  case choice =>
    intro rt mode path metric
    refine ⟨fun h => choose_unchanged h, fun h => (choose_changed h).trans ?_⟩
    have hmode : ∀ m : Mode, u32 m.code = mode m := fun m => by cases m <;> rfl
    have hpath : ∀ o : Option Path, u32 (pathCode o) = path o := fun o => by cases o <;> rfl
    have hmetric : ∀ o : Option Path, u32 (metricCode (s.metricOfOption o)) = metric o := fun o => by
      cases o with
      | none => rfl
      | some q =>
        have hcode : ∀ m : Option Nat, u32 (metricCode m) = match m with | some n => u32 n | none => 4294967295 :=
          fun m => by cases m <;> rfl
        exact hcode (s.metricOf q)
    have hreport : s.routeChange r cause causing rt.chosen new =
        ⟨.routeChange, BitVec.ofNat 8 r.val,
          (match cause with
           | .listApplied => 1 | .standbyChanged => 2 | .activeFading => 3 | .activeLost => 4 | .activeRecovered => 5
           | .secondaryLost => 6 | .secondaryImproved => 7 | .candidateUp => 8 | .rerank => 9 | .fallbackReturn => 10),
          stampWord s.reading 0,
          [mode new.mode, path new.active, path new.secondary, mode rt.chosen.mode, path rt.chosen.active,
           path rt.chosen.secondary, path causing, metric new.active, metric rt.chosen.active]⟩ := by
      unfold State.routeChange makeReport
      rw [hmode, hmode, hpath, hpath, hpath, hpath, hpath, hmetric, hmetric]
      cases cause <;> rfl
    rw [← sat32_eq]
    exact congrArg₂ submit hreport rfl
  case enters =>
    intro y
    have hcode : s.paths[q].entered s.tb.runNs new cause.code = y := by cases cause <;> rfl
    have hentered := enterState_eq q new cause s
    rwa [hcode] at hentered

end Sys2Proof.Machine

/-! ## What a merger window holds

A sequence inside the window passes once between two resyncs (R139 to R149). -/

namespace Sys2Proof.Machine

/-! ### Distances -/

theorem distance_self (n : BitVec 24) : distance n n = 0 := by
  unfold distance
  rw [BitVec.sub_self]
  rfl

/-- After an advance a sequence of the old window that lies in the new one lies behind by the distance moved (R141). -/
theorem distance_advanced {n seq other : BitVec 24} (hseq : 1 ≤ distance n seq) (_hlo : -63 ≤ distance n other)
    (_hhi : distance n other ≤ 0) (hlo' : -63 ≤ distance seq other) (hhi' : distance seq other ≤ 0) :
    distance n other = distance seq other + distance n seq := by
  have hsum : distance n other = (distance seq other + distance n seq).bmod (2 ^ 24) := by
    unfold distance
    rw [← BitVec.toInt_add]
    congr 1
    bv_omega
  have hbound : distance n seq < 2 ^ 23 := BitVec.toInt_lt
  have hrange := Int.bmod_eq_of_le (n := distance seq other + distance n seq) (m := 2 ^ 24) (by omega) (by omega)
  rw [hsum, hrange]

/-! ### Seen records -/

section

variable {m : MergeRecord} {seq other : BitVec 24} {rd : Reading} {p : Path}

theorem holds_iff :
    m.holds seq ↔ m.tracking = true ∧ -63 ≤ distance m.newest seq ∧ distance m.newest seq ≤ 0 ∧
      ∃ a, m.table[(63 + distance m.newest seq).toNat]? = some a ∧ a.seen = true := by
  unfold MergeRecord.holds
  rw [Option.map_eq_some_iff]

/-- A window whose newest record has been seen holds the newest sequence (R142, R143, R148). -/
theorem holds_newest {a : Arrival} (htracking : m.tracking = true) (hnewest : m.newest = seq)
    (hlast : m.table[63]? = some a) (ha : a.seen = true) : m.holds seq := by
  have hself : distance m.newest seq = 0 := hnewest ▸ distance_self _
  refine holds_iff.2 ⟨htracking, ?_, ?_, a, ?_, ha⟩
  · omega
  · omega
  · rw [hself]
    exact hlast

theorem freshTable_last (a : Arrival) : (freshTable a)[63]? = some a := rfl

/-- A start holds its sequence, whatever its counts (R142, R148). -/
theorem start_holds {m' : MergeRecord} (htracking : m'.tracking = true) (hnewest : m'.newest = seq)
    (htable : m'.table = freshTable (firstArrival rd p)) : m'.holds seq :=
  holds_newest htracking hnewest (htable ▸ freshTable_last _) rfl

/-- An advance holds its sequence and what the new window keeps of the old one (R143). -/
theorem advance_holds (h : m.table.length = 64) (htracking : m.tracking = true) (hd : 1 ≤ distance m.newest seq) :
    (m.advance seq rd p).holds seq := by
  have hlast := (advanceTable_getElem? (i := 63) h (by omega : 1 ≤ (distance m.newest seq).toNat) (by omega)
    (firstArrival rd p)).trans (if_pos rfl)
  exact holds_newest (m := m.advance seq rd p) htracking rfl hlast rfl

theorem advance_keeps (h : m.table.length = 64) (hd : 1 ≤ distance m.newest seq) (hold : m.holds other)
    (hlo : -63 ≤ distance seq other) (hhi : distance seq other ≤ 0) : (m.advance seq rd p).holds other := by
  obtain ⟨htracking, hlo', hhi', a, ha, hseen⟩ := holds_iff.1 hold
  have hmoved := distance_advanced hd hlo' hhi' hlo hhi
  have hget := advanceTable_getElem? (i := (63 + distance seq other).toNat) h
    (by omega : 1 ≤ (distance m.newest seq).toNat) (by omega) (firstArrival rd p)
  rw [if_neg (by omega), if_pos (by omega)] at hget
  refine holds_iff.2 ⟨htracking, hlo, hhi, a, hget.trans ?_, hseen⟩
  rw [← ha]
  congr 1
  omega

/-- A window whose table only gains seen records goes on holding what it holds (R149). -/
theorem holds_of_table {m' : MergeRecord} (hnewest : m'.newest = m.newest) (htracking : m'.tracking = m.tracking)
    (hseen : ∀ (i : Nat) a, m.table[i]? = some a → a.seen = true → ∃ b, m'.table[i]? = some b ∧ b.seen = true)
    (hold : m.holds other) : m'.holds other := by
  obtain ⟨ht, hlo, hhi, a, ha, hs⟩ := holds_iff.1 hold
  rw [holds_iff, hnewest, htracking]
  exact ⟨ht, hlo, hhi, hseen _ a ha hs⟩

/-- A record written over another as seen leaves every seen record seen. -/
theorem set_seen {t : List Arrival} {k : Nat} {x : Arrival} (hx : x.seen = true) (i : Nat) (a : Arrival)
    (ha : t[i]? = some a) (hs : a.seen = true) : ∃ b, (t.set k x)[i]? = some b ∧ b.seen = true := by
  have hi : i < t.length := (List.getElem?_eq_some_iff.1 ha).1
  by_cases hki : k = i
  · subst hki
    exact ⟨x, List.getElem?_set_self hi, hx⟩
  · exact ⟨a, (List.getElem?_set_ne hki).trans ha, hs⟩

/-- What R149 says of a delivery of `seq` on a record: a win is held from then on, a held sequence does not win, and what
the new window keeps of the old one stays held. -/
structure PassesOnce (m : MergeRecord) (seq : BitVec 24) (taken : MergeRecord × Handed) : Prop where
  win : taken.2 = .win → taken.1.holds seq
  held : m.holds seq → taken.2 ≠ .win
  keeps : ∀ other, m.holds other → m.isResync seq = false → -63 ≤ distance taken.1.newest other →
    distance taken.1.newest other ≤ 0 → taken.1.holds other

theorem passesOnce_empty (h : m.tracking = false) : PassesOnce m seq (m.start seq rd p, .win) where
  win _ := start_holds rfl rfl rfl
  held hold := absurd (hold.1.symm.trans h) Bool.noConfusion
  keeps _ hold := absurd (hold.1.symm.trans h) Bool.noConfusion

theorem passesOnce_ahead (htable : m.table.length = 64) (h : m.tracking = true) (hd : 1 ≤ distance m.newest seq) :
    PassesOnce m seq (m.advance seq rd p, .win) where
  win _ := advance_holds htable h hd
  held hold := by
    obtain ⟨-, -, hhi, -⟩ := holds_iff.1 hold
    omega
  keeps _ hold _ hlo hhi := advance_keeps htable hd hold hlo hhi

theorem passesOnce_inside (htable : m.table.length = 64) (h : m.tracking = true) (hlo : -63 ≤ distance m.newest seq)
    (hhi : distance m.newest seq ≤ 0) : PassesOnce m seq (m.inside seq rd p) := by
  have hplace : m.place seq < m.table.length := by
    unfold MergeRecord.place
    omega
  obtain ⟨a, ha⟩ : ∃ a, m.table[m.place seq]? = some a := ⟨_, List.getElem?_eq_getElem hplace⟩
  cases hseen : a.seen with
  | false =>
    rw [inside_of_unseen ha hseen]
    refine ⟨fun _ => holds_iff.2 ⟨h, hlo, hhi, _, List.getElem?_set_self hplace, rfl⟩, fun hold => ?_,
      fun other hold _ _ _ => holds_of_table (m := m) rfl rfl (set_seen rfl) hold⟩
    obtain ⟨-, -, -, b, hb, hs⟩ := holds_iff.1 hold
    obtain rfl : a = b := Option.some.inj (ha.symm.trans hb)
    exact absurd (hseen.symm.trans hs) Bool.noConfusion
  | true =>
    cases hlate : a.late with
    | false =>
      rw [inside_of_not_late ha hseen hlate]
      exact ⟨fun hwin => Handed.noConfusion hwin, fun _ hwin => Handed.noConfusion hwin,
        fun other hold _ _ _ => holds_of_table (m := m) rfl rfl (set_seen (x := { a with late := true }) hseen) hold⟩
    | true =>
      rw [inside_of_late ha hseen hlate]
      exact ⟨fun hwin => Handed.noConfusion hwin, fun _ hwin => Handed.noConfusion hwin,
        fun other hold _ _ _ => holds_of_table (m := m) rfl rfl (fun _ a ha hs => ⟨a, ha, hs⟩) hold⟩

theorem passesOnce_behind (h : m.tracking = true) (hd : distance m.newest seq ≤ -64) :
    PassesOnce m seq (m.behind seq rd p) := by
  have hout : ¬ m.holds seq := fun hold => by
    obtain ⟨-, hlo, -⟩ := holds_iff.1 hold
    omega
  by_cases hresync : m.resyncCount ≤ min 255 (m.staleRun + 1)
  · rw [behind_of_resync hresync]
    refine ⟨fun _ => start_holds rfl rfl rfl, fun hold => absurd hold hout, fun _ _ hno => ?_⟩
    exact absurd (hno.symm.trans ((isResync_iff m seq).2 ⟨h, hd, hresync⟩)) Bool.noConfusion
  · rw [behind_of_below (not_le.1 hresync)]
    exact ⟨fun hwin => Handed.noConfusion hwin, fun _ hwin => Handed.noConfusion hwin,
      fun other hold _ _ _ => holds_of_table (m := m) rfl rfl (fun _ a ha hs => ⟨a, ha, hs⟩) hold⟩

theorem take_passesOnce (htable : m.table.length = 64) : PassesOnce m seq (m.take seq rd p) := by
  cases h : m.tracking with
  | false =>
    rw [take_of_empty h]
    exact passesOnce_empty h
  | true =>
    by_cases hahead : 1 ≤ distance m.newest seq
    · rw [take_of_ahead h hahead]
      exact passesOnce_ahead htable h hahead
    · by_cases hinside : -63 ≤ distance m.newest seq
      · rw [take_of_inside h hinside (by omega)]
        exact passesOnce_inside htable h hinside (by omega)
      · rw [take_of_behind h (by omega)]
        exact passesOnce_behind h (by omega)

end

/-- Settles O37: each case of a delivery passes its sequence once. -/
theorem eachSequencePassesOnceInTheWindow : Obligations.EachSequencePassesOnceInTheWindow := by
  intro m seq rd p htable taken
  obtain ⟨hwin, hheld, hkeeps⟩ := take_passesOnce (seq := seq) (rd := rd) (p := p) htable
  exact ⟨take_table_length m seq rd p htable, hwin, hheld, hkeeps⟩

end Sys2Proof.Machine

/-! ## The Report Writer's turn

Records placed or dropped, the flags they set, and the status word (R176, R177, R178, R180). -/

namespace Sys2Proof.Machine

/-! ### Pending flags -/

/-- A pending flag set, with the status word that its change lists (R180). -/
theorem setPending_eq (k : RingId) (s : State) :
    setPending k s =
      { s with
        rings := s.rings.set k { s.rings[k] with pending := true }
        writeList :=
          if s.rings[k].pending = false ∧ s.writeList.any ListItem.isStatus = false then s.writeList ++ [.status]
          else s.writeList } := by
  unfold setPending listStatus
  cases hp : s.rings[k].pending with
  | true =>
    have hself : s.rings.set k { s.rings[k] with pending := true } = s.rings := by
      rw [← hp]
      exact Vector.set_getElem_self k.isLt
    have hno : ¬ (true = false ∧ s.writeList.any ListItem.isStatus = false) := fun h => Bool.noConfusion h.1
    rw [if_pos rfl, if_neg hno, hself]
  | false =>
    rw [if_neg Bool.false_ne_true]
    have hlist : (s.setRing k { s.rings[k] with pending := true }).writeList = s.writeList := rfl
    rw [hlist]
    cases hany : s.writeList.any ListItem.isStatus with
    | true =>
      have hno : ¬ (false = false ∧ true = false) := fun h => Bool.noConfusion h.2
      rw [if_pos rfl, if_neg hno]
      rfl
    | false =>
      have hyes : false = false ∧ false = false := ⟨rfl, rfl⟩
      rw [if_neg Bool.false_ne_true, if_pos hyes]
      rfl

theorem setPending_pending (k : RingId) (s : State) : (setPending k s).rings[k].pending = true := by
  rw [setPending_eq]
  exact congrArg Ring.pending (Vector.getElem_set_self ..)

theorem setPending_idle {k : RingId} {s : State} (h : s.rings[k].pending = true) : setPending k s = s := if_pos h

/-! ### Placement -/

/-- The ring after a record is written at the end of its group or before it (R177, R178). -/
theorem written_eq (x : Ring) :
    let full := x.position + 1 = x.perGroup
    let moves := full ∧ (x.group + 1) % x.groups ≠ x.consumer
    let signals := full ∧ x.completed + 1 = x.irqGroups
    x.written =
      { x with
        number := x.number + 1, drops := 0
        position := if moves then 0 else x.position + 1
        group := if moves then (x.group + 1) % x.groups else x.group
        completed := if signals then 0 else if full then x.completed + 1 else x.completed } := by
  intro full moves signals
  unfold Ring.written Ring.moveOn Ring.nextGroup
  dsimp only
  by_cases hfull : x.position + 1 = x.perGroup
  · by_cases hsignals : x.completed + 1 = x.irqGroups
    · by_cases hmoves : (x.group + 1) % x.groups = x.consumer <;> simp [full, moves, signals, hfull, hmoves, hsignals]
    · by_cases hmoves : (x.group + 1) % x.groups = x.consumer <;> simp [full, moves, signals, hfull, hmoves, hsignals]
  · simp [full, moves, signals, hfull]

theorem placeAt_some {x : Ring} {base : Addr} (hp : x.position ≠ x.perGroup)
    (hbase : x.bases.toList[x.group]? = some (some base)) :
    x.placeAt = some (base + BitVec.ofNat 32 (64 * x.position)) := by
  unfold Ring.placeAt
  rw [if_neg hp, List.getD_eq_getElem?_getD, hbase]
  rfl

theorem placeAt_none {x : Ring} (h : x.position = x.perGroup ∨ x.bases.toList[x.group]? = some none) :
    x.placeAt = none := by
  unfold Ring.placeAt
  split
  · rfl
  next hp =>
    rw [List.getD_eq_getElem?_getD, h.resolve_left hp]
    rfl

/-- The writes of some words go up from their address (R35). -/
theorem ownWrites_get (addr : Addr) (owner : WriteOwner) (ws : List Word) (i : Nat) :
    (ownWrites addr owner ws)[i]? = ws[i]?.map (fun w => ⟨addr + BitVec.ofNat 32 (8 * i), [⟨w, 0xFF⟩], owner⟩) := by
  induction ws generalizing addr i with
  | nil => rfl
  | cons w ws ih =>
    cases i with
    | zero =>
      have haddr : addr + BitVec.ofNat 32 (8 * 0) = addr := BitVec.add_zero addr
      rw [haddr]
      rfl
    | succ i =>
      have haddr : addr + 8 + BitVec.ofNat 32 (8 * i) = addr + BitVec.ofNat 32 (8 * (i + 1)) := by
        rw [BitVec.add_assoc, Nat.mul_succ, Nat.add_comm (8 * i) 8, BitVec.ofNat_add]
        rfl
      have hget := ih (addr + 8) i
      rw [haddr] at hget
      exact hget

theorem ownWrites_length (addr : Addr) (owner : WriteOwner) (ws : List Word) :
    (ownWrites addr owner ws).length = ws.length := by
  induction ws generalizing addr with
  | nil => rfl
  | cons w ws ih => exact congrArg Nat.succ (ih (addr + 8))

/-- Urgent records are ring 0's (R176, R180). -/
theorem urgent_ring {k : ReportKind} (h : k.urgent = true) : k.ring = 0 := by
  revert h
  cases k <;> decide

/-- A record written sets its own ring's flag where it completes an interrupt group or is urgent (R177, R180). -/
theorem writeRecord_eq (r : Report) (addr : Addr) (s : State) :
    writeRecord r addr s =
      (let x := s.rings[r.kind.ring]
       let u := (presentOffer .report (ownWrites addr .ringRecord (recordWords r x.number x.drops)) s).setRing r.kind.ring
        x.written
       if x.interrupts || r.kind.urgent then setPending r.kind.ring u else u) := by
  unfold writeRecord
  dsimp only
  generalize (presentOffer .report _ s).setRing r.kind.ring _ = u
  cases hurgent : r.kind.urgent with
  | false =>
    rw [Bool.or_false]
    exact if_neg Bool.false_ne_true
  | true =>
    rw [Bool.or_true, if_pos rfl, if_pos rfl, ← urgent_ring hurgent]
    split
    · exact setPending_idle (setPending_pending ..)
    · rfl

theorem interrupts_iff (x : Ring) :
    x.interrupts = decide (x.position + 1 = x.perGroup ∧ x.completed + 1 = x.irqGroups) := by
  unfold Ring.interrupts
  rw [Bool.eq_iff_iff, Bool.and_eq_true, beq_iff_eq, beq_iff_eq, decide_eq_true_iff]

/-! ### The items of the write list -/

/-- How many items the Report Writer takes at most until one becomes an offer: a drop may list one status word (R176). -/
def State.itemsAhead (s : State) : Nat := s.writeList.length + if s.writeList.any ListItem.isStatus then 0 else 1

theorem placeItems_empty {s : State} (h : s.writeList = []) (n : Nat) : placeItems n s = s := by
  cases n with
  | zero => rfl
  | succ n =>
    unfold placeItems
    rw [h]

theorem placeItems_status {s : State} {rest : List ListItem} (h : s.writeList = .status :: rest) (n : Nat) :
    placeItems (n + 1) s = offerStatus { s with writeList := rest } := by
  rw [placeItems, h]

theorem placeItems_placed {s : State} {rest : List ListItem} {r : Report} {addr : Addr}
    (h : s.writeList = .record r :: rest) (hplace : s.rings[r.kind.ring].placeAt = some addr) (n : Nat) :
    placeItems (n + 1) s = writeRecord r addr { s with writeList := rest } := by
  rw [placeItems, h]
  dsimp only
  rw [hplace]

theorem placeItems_dropped {s : State} {rest : List ListItem} {r : Report} (h : s.writeList = .record r :: rest)
    (hplace : s.rings[r.kind.ring].placeAt = none) (n : Nat) :
    placeItems (n + 1) s = placeItems n (({ s with writeList := rest } : State).dropped r) := by
  rw [placeItems, h]
  dsimp only
  rw [hplace]
  exact congrArg (placeItems n) (countDrop_dropped r { s with writeList := rest })

/-- A drop lists a status word only where none waits (R178, R180). -/
theorem dropped_writeList_of (s : State) (r : Report) :
    (s.dropped r).writeList = s.writeList ∨
      s.writeList.any ListItem.isStatus = false ∧ (s.dropped r).writeList = s.writeList ++ [.status] := by
  unfold State.dropped
  dsimp only
  split
  · cases hany : s.writeList.any ListItem.isStatus with
    | true => exact .inl rfl
    | false => exact .inr ⟨rfl, rfl⟩
  · exact .inl rfl

/-- A drop leaves one item less ahead of the Report Writer. -/
theorem itemsAhead_dropped {s : State} {rest : List ListItem} {r : Report} (h : s.writeList = .record r :: rest) :
    (({ s with writeList := rest } : State).dropped r).itemsAhead + 1 ≤ s.itemsAhead := by
  have hahead : s.itemsAhead = rest.length + 1 + if rest.any ListItem.isStatus then 0 else 1 := by
    unfold State.itemsAhead
    rw [h]
    rfl
  rw [hahead]
  unfold State.itemsAhead
  rcases dropped_writeList_of { s with writeList := rest } r with hsame | ⟨hno, hlisted⟩
  · rw [hsame]
    exact (Nat.add_right_comm ..).le
  · have hnone : rest.any ListItem.isStatus = false := hno
    have hsome : (rest ++ [ListItem.status]).any ListItem.isStatus = true := by
      rw [List.any_append]
      exact Bool.or_true _
    rw [hlisted, hsome, hnone, List.length_append]
    exact Nat.le_refl _

theorem itemsAhead_pos {s : State} {item : ListItem} {rest : List ListItem} (h : s.writeList = item :: rest) :
    0 < s.itemsAhead := by
  unfold State.itemsAhead
  rw [h, List.length_cons]
  omega

/-- As many turns as there are items ahead are enough: any more come to the same. -/
theorem placeItems_enough {n m : Nat} {s : State} (hn : s.writeList = [] ∨ s.itemsAhead ≤ n)
    (hm : s.writeList = [] ∨ s.itemsAhead ≤ m) : placeItems n s = placeItems m s := by
  induction n generalizing m s with
  | zero =>
    cases hlist : s.writeList with
    | nil => rw [placeItems_empty hlist, placeItems_empty hlist]
    | cons item rest =>
      have hpos := itemsAhead_pos hlist
      have hzero := hn.resolve_left (by simp [hlist])
      omega
  | succ n ih =>
    cases hlist : s.writeList with
    | nil => rw [placeItems_empty hlist, placeItems_empty hlist]
    | cons item rest =>
      have hpos := itemsAhead_pos hlist
      have hn' := hn.resolve_left (by simp [hlist])
      have hm' := hm.resolve_left (by simp [hlist])
      obtain ⟨m, rfl⟩ : ∃ k, m = k + 1 := ⟨m - 1, by omega⟩
      cases item with
      | status => rw [placeItems_status hlist, placeItems_status hlist]
      | record r =>
        cases hplace : s.rings[r.kind.ring].placeAt with
        | some addr => rw [placeItems_placed hlist hplace, placeItems_placed hlist hplace]
        | none =>
          have hless := itemsAhead_dropped hlist
          rw [placeItems_dropped hlist hplace, placeItems_dropped hlist hplace]
          exact ih (.inr (by omega)) (.inr (by omega))

/-- The Report Writer's turn with none of its offers at the arbiter: any turns that are enough (R176). -/
theorem placeNext_eq {s : State} (h : s.offers.any Offer.isReport = false) {n : Nat}
    (hn : s.writeList = [] ∨ s.itemsAhead ≤ n) : placeNext s = placeItems n s := by
  have hturns : s.writeList = [] ∨ s.itemsAhead ≤ 2 * s.writeList.length := by
    cases hlist : s.writeList with
    | nil => exact .inl rfl
    | cons item rest =>
      refine .inr ?_
      unfold State.itemsAhead
      rw [hlist, List.length_cons]
      split <;> omega
  unfold placeNext
  rw [h]
  exact placeItems_enough hturns hn

/-- A drop and the start of a turn do not touch each other. -/
theorem dropped_quiet (s : State) (r : Report) : s.quiet.dropped r = (s.dropped r).quiet := by
  unfold State.dropped State.quiet
  dsimp only
  split <;> rfl

theorem dropped_offers (s : State) (r : Report) : (s.dropped r).offers = s.offers := by
  unfold State.dropped
  dsimp only
  split <;> rfl

theorem statusWord_eq (s : State) :
    s.statusWord = BitVec.ofNat 64 ((if s.rings[(1 : Fin 2)].pending then 2 else 0) +
      (if s.rings[(0 : Fin 2)].pending then 1 else 0)) := by
  unfold State.statusWord
  cases s.rings[(1 : RingId)].pending <;> cases s.rings[(0 : RingId)].pending <;> decide

/-- A flag set or left, with the status word that a change of it lists (R180). -/
theorem setPendingIf_eq (b : Bool) (k : RingId) (s : State) :
    (if b then setPending k s else s) =
      { s with
        rings := s.rings.set k { s.rings[k] with pending := s.rings[k].pending || b }
        writeList :=
          if (s.rings[k].pending || b) ≠ s.rings[k].pending ∧ s.writeList.any ListItem.isStatus = false then
            s.writeList ++ [.status]
          else s.writeList } := by
  cases b with
  | true =>
    rw [if_pos rfl, setPending_eq, Bool.or_true]
    have hchange : (true ≠ s.rings[k].pending ∧ s.writeList.any ListItem.isStatus = false) ↔
        (s.rings[k].pending = false ∧ s.writeList.any ListItem.isStatus = false) := by
      refine and_congr_left' ?_
      cases s.rings[k].pending <;> decide
    exact congrArg (fun l => ({ s with rings := s.rings.set k { s.rings[k] with pending := true }, writeList := l } : State))
      (if_congr hchange rfl rfl).symm
  | false =>
    have hself : s.rings.set k { s.rings[k] with pending := s.rings[k].pending } = s.rings :=
      Vector.set_getElem_self k.isLt
    rw [if_neg Bool.false_ne_true, Bool.or_false, hself, if_neg fun h => h.1 rfl]

/-- A ring after a record is written, with the flag it may set (R177, R178, R180). -/
def Ring.placed (x : Ring) (urgent : Bool) : Ring := { x.written with pending := x.pending || (x.interrupts || urgent) }

theorem written_pending (x : Ring) : x.written.pending = x.pending := by rw [written_eq]

theorem placed_eq (x : Ring) (urgent : Bool) :
    let full := x.position + 1 = x.perGroup
    let moves := full ∧ (x.group + 1) % x.groups ≠ x.consumer
    let signals := full ∧ x.completed + 1 = x.irqGroups
    x.placed urgent =
      { x with
        number := x.number + 1, drops := 0
        position := if moves then 0 else x.position + 1
        group := if moves then (x.group + 1) % x.groups else x.group
        completed := if signals then 0 else if full then x.completed + 1 else x.completed
        pending := x.pending || decide signals || urgent } := by
  intro full moves signals
  unfold Ring.placed
  rw [written_eq, interrupts_iff, Bool.or_assoc]

/-- The state after a record is written at an address: one more offer, its ring, and the status word that a change of the
ring's flag lists (R177, R178, R180). -/
def State.recordPlaced (s : State) (r : Report) (addr : Addr) : State :=
  let x := s.rings[r.kind.ring]
  let y := x.placed r.kind.urgent
  { s with
    offers := s.offers ++ [⟨.report, ownWrites addr .ringRecord (recordWords r x.number x.drops)⟩]
    rings := s.rings.set r.kind.ring y
    writeList :=
      if y.pending ≠ x.pending ∧ s.writeList.any ListItem.isStatus = false then s.writeList ++ [.status]
      else s.writeList }

theorem writeRecord_state (r : Report) (addr : Addr) (s : State) : writeRecord r addr s = s.recordPlaced r addr := by
  rw [writeRecord_eq]
  dsimp only
  rw [setPendingIf_eq]
  generalize hws : ownWrites addr .ringRecord _ = ws
  have hget : ((presentOffer .report ws s).setRing r.kind.ring s.rings[r.kind.ring].written).rings[r.kind.ring] =
      s.rings[r.kind.ring].written := Vector.getElem_set_self ..
  have hset : ∀ y, ((presentOffer .report ws s).setRing r.kind.ring s.rings[r.kind.ring].written).rings.set r.kind.ring y =
      s.rings.set r.kind.ring y := fun y => Vector.set_set ..
  rw [hget, hset, written_pending]
  subst hws
  rfl

/-- Settles O44: an empty list, a status word, a record placed, and a record dropped. -/
theorem recordsArePlacedOrDropped : Obligations.RecordsArePlacedOrDropped := by
  intro s rest hidle
  refine ⟨fun hlist => ?empty, fun hlist => ?status, fun r hlist => ⟨fun base hp hbase => ?placed, fun hnowhere => ?dropped⟩⟩
  case empty =>
    have hturn := placeNext_eq (s := s.quiet) (n := 0) hidle (.inl hlist)
    exact congrArg Host.Outcome.next hturn
  case status =>
    have hturn := placeNext_eq (s := s.quiet) (n := s.quiet.itemsAhead + 1) hidle (.inr (Nat.le_succ _))
    rw [placeItems_status (s := s.quiet) hlist] at hturn
    refine congrArg Host.Outcome.next (hturn.trans ?_)
    unfold offerStatus
    rw [statusWord_eq]
    rfl
  case placed =>
    intro full moves signals
    have hplace := placeAt_some hp hbase
    have hturn := placeNext_eq (s := s.quiet) (n := s.quiet.itemsAhead + 1) hidle (.inr (Nat.le_succ _))
    rw [placeItems_placed (s := s.quiet) hlist hplace, writeRecord_state] at hturn
    generalize hu : ({ s.quiet with writeList := rest } : State) = u at hturn
    have hget : (u.recordPlaced r (base + BitVec.ofNat 32 (64 * s.rings[r.kind.ring].position))).rings[r.kind.ring] =
        s.rings[r.kind.ring].placed r.kind.urgent := by
      subst hu
      exact Vector.getElem_set_self ..
    refine ⟨u.recordPlaced r (base + BitVec.ofNat 32 (64 * s.rings[r.kind.ring].position)),
      congrArg Host.Outcome.next hturn, ⟨ownWrites (base + BitVec.ofNat 32 (64 * s.rings[r.kind.ring].position)) .ringRecord
        (recordWords r s.rings[r.kind.ring].number s.rings[r.kind.ring].drops), ?_, ownWrites_length .., fun i hi => ?_⟩,
      hget.trans (placed_eq ..), fun j hj => ?_, ?_, ?_⟩
    · subst hu
      rfl
    · have hlen : i < (recordWords r s.rings[r.kind.ring].number s.rings[r.kind.ring].drops).length := hi
      obtain ⟨v, hv⟩ : ∃ v, (recordWords r s.rings[r.kind.ring].number s.rings[r.kind.ring].drops)[i]? = some v :=
        ⟨_, List.getElem?_eq_getElem hlen⟩
      refine ⟨v, hv, ?_⟩
      rw [ownWrites_get, hv, BitVec.ofNat_add, ← BitVec.add_assoc]
      rfl
    · subst hu
      exact Vector.getElem_set_ne r.kind.ring.isLt j.isLt fun he => hj (Fin.ext he.symm)
    · rw [hget]
      subst hu
      rfl
    · subst hu
      rfl
  case dropped =>
    have hplace : s.quiet.rings[r.kind.ring].placeAt = none := placeAt_none hnowhere
    have hturn := placeNext_eq (s := s.quiet) (n := s.quiet.itemsAhead + 1) hidle (.inr (Nat.le_succ _))
    have hahead := itemsAhead_dropped (s := s.quiet) hlist
    have hquiet := dropped_quiet ({ s with writeList := rest } : State) r
    have hnext := placeNext_eq (s := (({ s with writeList := rest } : State).dropped r).quiet) (n := s.quiet.itemsAhead)
      ((congrArg (List.any · Offer.isReport) (dropped_offers _ r)).trans hidle) (.inr (by
        rw [← hquiet]
        exact (Nat.le_succ _).trans hahead))
    have hboth : placeNext s.quiet = placeNext (({ s with writeList := rest } : State).dropped r).quiet := by
      rw [hturn, placeItems_dropped (s := s.quiet) hlist hplace, hnext, ← hquiet]
      rfl
    exact congrArg Host.Outcome.next hboth

end Sys2Proof.Machine

/-! ## Power-on reset

The values that every block takes at power-on reset (R5, R8, R18, R33, R40, R41, R79, R84, R97, R100, R119, R139, R153,
R174, R175). -/

namespace Sys2Proof.Machine

/-- The strapped tag is MANAGEMENT, and no other tag has a role (R5, R18). -/
theorem powerOnAgents_get (mgmtTag tag : Tag) :
    (powerOnAgents mgmtTag)[tag] = if tag = mgmtTag then ⟨.management, 0⟩ else ⟨.none, 0⟩ := by
  unfold powerOnAgents
  by_cases h : tag = mgmtTag
  · subst h
    simp
  · have hne : mgmtTag.val ≠ tag.val := fun he => h (Fin.ext he.symm)
    simp [h, hne]

/-- Settles O3: block by block, the reset's value. -/
theorem powerOnResetGivesEveryBlockItsValues : Obligations.PowerOnResetGivesEveryBlockItsValues := by
  intro s ctlBase mgmtTag
  have hpath : ∀ p : Path, (powerOnReset ctlBase mgmtTag s).paths[p] = powerOnPath := fun p => Vector.getElem_replicate ..
  have hmerger : ∀ r : Route, (powerOnReset ctlBase mgmtTag s).mergers[r] = emptyMerger := fun r =>
    Vector.getElem_replicate ..
  refine ⟨powerOnReset ctlBase mgmtTag s, rfl, rfl, rfl, powerOnAgents_get mgmtTag, fun i => Vector.getElem_replicate ..,
    rfl, rfl, rfl, rfl, rfl, rfl, rfl, rfl, rfl, rfl, fun r => Vector.getElem_replicate .., fun p => Vector.getElem_replicate ..,
    rfl, rfl, rfl, rfl, rfl, rfl, rfl, rfl, rfl, rfl, rfl, rfl, rfl, rfl, rfl, rfl, rfl, rfl, rfl, rfl, rfl,
    fun p => ⟨Vector.getElem_replicate .., Vector.getElem_replicate ..⟩, fun p => ?paths, rfl,
    fun r => Vector.getElem_replicate .., fun r => ?mergers, rfl, rfl, fun k => Vector.getElem_replicate .., rfl, rfl⟩
  case paths =>
    rw [hpath p]
    exact ⟨rfl, rfl, rfl, rfl, rfl, rfl, rfl, rfl⟩
  case mergers =>
    rw [hmerger r]
    exact ⟨rfl, rfl, rfl⟩

end Sys2Proof.Machine

/-! ## The records of SNAPSHOT

Each record is the concatenation of its table's rows (R63, R118, R138, R152, R183). -/

namespace Sys2Proof.Machine

/-! ### Rows one after another -/

/-- Rows that follow each other: each begins, counted from `n`, where the one before it ends. -/
def consecutive : Nat → List (Nat × List Word) → Prop
  | _, [] => True
  | n, row :: rows => row.1 = n ∧ consecutive (n + row.2.length) rows

theorem consecutive_laidOut {n : Nat} {before ws : List Word} {rows : List (Nat × List Word)} (hn : before.length + 1 = n)
    (h : consecutive n rows) (hws : ws = before ++ rows.flatMap Prod.snd) : laidOut ws rows := by
  induction rows generalizing n before with
  | nil => exact fun row hrow => absurd hrow List.not_mem_nil
  | cons row rows ih =>
    obtain ⟨hrow, hrest⟩ := h
    rw [List.flatMap_cons] at hws
    have hbehind := ih (n := n + row.2.length) (before := before ++ row.2)
      (by rw [List.length_append]; omega) hrest (by rw [hws, List.append_assoc])
    intro r hr
    rcases List.mem_cons.1 hr with rfl | hr
    · have hstart : r.1 - 1 = before.length := by omega
      rw [hws, hstart, List.drop_left, List.take_left]
    · exact hbehind r hr

/-- A record that is the concatenation of rows that follow each other from word 1 is laid out as they say. -/
theorem laidOut_of_consecutive {ws : List Word} {rows : List (Nat × List Word)} (h : consecutive 1 rows)
    (hws : ws = rows.flatMap Prod.snd) : laidOut ws rows :=
  consecutive_laidOut (before := []) rfl h hws

/-! ### The fields -/

theorem pair64_eq (o : Option Nat) : pair64 o = presence o := by cases o <;> rfl

theorem b64_eq (b : Bool) : b64 b = flag b := by cases b <;> rfl

theorem presence_length (o : Option Nat) : (presence o).length = 2 := by cases o <;> rfl

theorem captureWords_eq (c : Option Capture) : captureWords c = captureRow c := by
  cases c with
  | none => rfl
  | some c =>
    have hcode : n64 (1 + 2 * bit (c.source == .generated) + 4 * bit c.used) =
        1 ||| (if c.source = .generated then 2 else 0) ||| (if c.used then 4 else 0) := by
      cases c.source <;> cases c.used <;> decide
    exact congrArg (fun w => [w, n64 c.sec.toNat, n64 c.ns, n64 c.run]) hcode

theorem captureRow_length (c : Option Capture) : (captureRow c).length = 4 := by cases c <;> rfl

theorem errorWords_length (e : Option Int) : (errorWords e).length = 2 := by cases e <;> rfl

/-! ### The Time Base -/

theorem timeBaseWords_eq (t : TimeBase) : timeBaseWords t = (timeBaseRows t).flatMap Prod.snd := by
  have href : n64 t.ref.code = match t.ref with | .free => 0 | .acquiring => 1 | .locked => 2 | .holdover => 3 := by
    cases t.ref <;> rfl
  have hp : n64 t.p.ms = match t.p with | .ms1 => 1 | .ms10 => 10 | .ms100 => 100 | .ms1000 => 1000 := by
    cases t.p <;> rfl
  have herror : errorWords t.prevError = match t.prevError with | some e => [1, BitVec.ofInt 64 e] | none => [0, 0] := by
    cases t.prevError <;> rfl
  unfold timeBaseWords timeBaseRows
  rw [href, hp, herror, captureWords_eq, captureWords_eq, pair64_eq]
  simp only [List.flatMap_cons, List.flatMap_nil, List.append_assoc, List.cons_append, List.nil_append, List.append_nil,
    b64_eq]
  rfl

theorem timeBaseRows_consecutive (t : TimeBase) : consecutive 1 (timeBaseRows t) := by
  unfold timeBaseRows
  cases t.prevError <;> simp [consecutive, captureRow_length, presence_length]

theorem timeBaseWords_length (t : TimeBase) : (timeBaseWords t).length = 37 := by
  unfold timeBaseWords
  simp only [List.length_append, List.length_cons, List.length_nil, captureWords_eq, captureRow_length, pair64_eq,
    presence_length, errorWords_length]

/-! ### A path -/

theorem pathWords_eq (s : State) (p : Path) : s.pathWords p = (s.pathRows p).flatMap Prod.snd := by
  have hstate : n64 s.paths[p].state.code =
      match s.paths[p].state with | .disabled => 0 | .probation => 1 | .up => 2 | .fading => 3 | .down => 4 | .cut => 5 := by
    cases s.paths[p].state <;> rfl
  have hcls : n64 s.paths[p].set.cls.code = match s.paths[p].set.cls with | .mw => 0 | .mmw => 1 | .fibre => 2 := by
    cases s.paths[p].set.cls <;> rfl
  have hbehaviour : n64 s.paths[p].set.behaviour.code = match s.paths[p].set.behaviour with | .blank => 0 | .pass => 1 := by
    cases s.paths[p].set.behaviour <;> rfl
  unfold State.pathWords State.pathRows healthWords measurementWords countWords
  rw [hstate, hcls, hbehaviour]
  simp only [List.flatMap_cons, List.flatMap_nil, List.append_assoc, List.cons_append, List.nil_append, List.append_nil,
    b64_eq, pair64_eq]
  rfl

theorem pathRows_consecutive (s : State) (p : Path) : consecutive 1 (s.pathRows p) := by
  unfold State.pathRows
  dsimp only
  cases s.paths[p].tx <;> simp [consecutive, presence_length]

theorem pathWords_length (s : State) (p : Path) : (s.pathWords p).length = 74 := by
  unfold State.pathWords healthWords measurementWords countWords
  cases s.paths[p].tx <;>
    simp only [List.length_append, List.length_cons, List.length_nil, pair64_eq, presence_length]

/-! ### A ring -/

theorem ringWords_eq (s : State) (k : RingId) : s.ringWords k = (s.ringRows k).flatMap Prod.snd := by
  have hbases : (s.rings[k].bases.toList.map (fun b => pair64 (b.map BitVec.toNat))).flatten =
      s.rings[k].bases.toList.flatMap (fun b => presence (b.map BitVec.toNat)) := by
    rw [← List.flatMap_def]
    simp only [pair64_eq]
  have hwaiting : (s.writeList.filter (ListItem.onRing k)).length =
      s.writeList.countP (fun item => match item with | .record r => r.kind.ring == k | .status => false) := by
    rw [← List.countP_eq_length_filter]
    refine List.countP_congr fun item _ => ?_
    cases item <;> rfl
  unfold State.ringWords State.ringRows
  dsimp only
  rw [hbases, hwaiting]
  simp only [List.flatMap_cons, List.flatMap_nil, List.cons_append, List.nil_append, List.append_nil, b64_eq]
  rfl

theorem ringRows_consecutive (s : State) (k : RingId) : consecutive 1 (s.ringRows k) := by
  unfold State.ringRows
  simp [consecutive]

theorem ringWords_length (s : State) (k : RingId) : (s.ringWords k).length = 45 := by
  have hbases : (s.rings[k].bases.toList.flatMap (fun b => presence (b.map BitVec.toNat))).length = 32 := by
    rw [List.length_flatMap]
    simp [presence_length]
  rw [ringWords_eq]
  unfold State.ringRows
  simp only [List.flatMap_cons, List.flatMap_nil, List.length_append, List.length_cons, List.length_nil, hbases]

/-! ### A route -/

/-- What a function makes of the first four places of a list, one place after another. -/
def fourOf (f : Nat → List Word) : List Word := f 0 ++ f 1 ++ f 2 ++ f 3

theorem fourOf_length {f : Nat → List Word} {width : Nat} (h : ∀ k, (f k).length = width) : (fourOf f).length = 4 * width := by
  unfold fourOf
  simp only [List.length_append, h]
  omega

/-- The words of an entry of a list, or those given where there is none. -/
def entryOr {α : Type} (o : Option α) (z : List Word) (g : α → List Word) : List Word :=
  match o with
  | some a => g a
  | none => z

/-- Four entries of words each, an entry beyond the list written as given (R138). -/
theorem take_four_flatten {α : Type} (l : List α) (g : α → List Word) (z : List Word) :
    ((l.map g ++ List.replicate 4 z).take 4).flatten = fourOf (fun k => entryOr l[k]? z g) := by
  unfold fourOf
  rcases l with _ | ⟨a, _ | ⟨b, _ | ⟨c, _ | ⟨d, rest⟩⟩⟩⟩ <;> simp [entryOr]

theorem listWords_eq {α : Type} (l : List α) (g : α → List Word) (width : Nat) :
    listWords (l.map g) 4 width = fourOf (fun k => entryOr l[k]? (List.replicate width 0) g) := take_four_flatten ..

/-- Four entries of one word each, an entry beyond the list written as given (R138). -/
theorem take_four {α : Type} (l : List α) (g : α → Word) (z : Word) :
    (l.map g ++ List.replicate 4 z).take 4 = fourOf (fun k => entryOr l[k]? [z] (fun a => [g a])) := by
  unfold fourOf
  rcases l with _ | ⟨a, _ | ⟨b, _ | ⟨c, _ | ⟨d, rest⟩⟩⟩⟩ <;> simp [entryOr]

/-- The entries of a whole list, place by place. -/
theorem flatMap_range_get {α : Type} (l : List α) (g : α → List Word) (z : List Word) :
    (List.range l.length).flatMap (fun k => entryOr l[k]? z g) = l.flatMap g := by
  induction l using List.reverseRecOn with
  | nil => rfl
  | append_singleton l a ih =>
    rw [List.length_append, List.length_singleton, List.range_succ, List.flatMap_append, List.flatMap_append, ← ih]
    congr 1
    · refine List.flatMap_congr fun k hk => ?_
      rw [List.getElem?_append_left (List.mem_range.1 hk)]
    · simp [entryOr]

/-- The words of an open-slot record by its extra (R138). -/
def openSlotRow (o : OpenSlot) : List Word :=
  match o.binding.extra with
  | none => [num o.slot, num o.binding.primary.val, 0, 0, num o.opened.sec.toNat, num o.opened.ns]
  | some (.mirror, q) => [num o.slot, num o.binding.primary.val, 1, num q.val, num o.opened.sec.toNat, num o.opened.ns]
  | some (.probe, q) => [num o.slot, num o.binding.primary.val, 2, num q.val, num o.opened.sec.toNat, num o.opened.ns]

theorem openSlotWords_eq (o : OpenSlot) : openSlotWords o = openSlotRow o := by
  unfold openSlotWords openSlotRow
  rcases o.binding.extra with _ | ⟨_ | _, q⟩ <;> rfl

theorem openSlotRow_length (o : OpenSlot) : (openSlotRow o).length = 6 := by
  unfold openSlotRow
  split <;> rfl

/-- The word of a rank metric (R136, R138). -/
def metricRow (m : Option Nat) : List Word :=
  match m with
  | some n => [num n]
  | none => [0xFFFFFFFF]

theorem metricRow_eq (m : Option Nat) : [n64 (metricCode m)] = metricRow m := by cases m <;> rfl

theorem metricRow_length (m : Option Nat) : (metricRow m).length = 1 := by cases m <;> rfl

/-- The words of an arrival record, none of them while the window is EMPTY (R152). -/
def arrivalRow (tracking : Bool) (a : Option Arrival) : List Word :=
  match tracking, a with
  | true, some a => [flag a.seen, num a.sec.toNat, num a.ns, num a.path.val, flag a.late]
  | _, _ => [0, 0, 0, 0, 0]

theorem arrivalWords_eq (a : Arrival) : arrivalWords a = arrivalRow true (some a) := by
  unfold arrivalWords
  rw [b64_eq, b64_eq]
  rfl

theorem arrivalRow_length (tracking : Bool) (a : Option Arrival) : (arrivalRow tracking a).length = 5 := by
  cases tracking <;> cases a <;> rfl

/-- The table's words of a merger (R152). -/
theorem arrivalTable_eq {m : MergeRecord} (h : m.table.length = 64) :
    ((if m.tracking then m.table else List.replicate 64 unseen).map arrivalWords).flatten =
      (List.range 64).flatMap (fun k => arrivalRow m.tracking m.table[k]?) := by
  cases m.tracking with
  | false =>
    have hempty : ∀ a : Option Arrival, arrivalRow false a = [0, 0, 0, 0, 0] := fun a => by cases a <;> rfl
    simp only [hempty]
    rfl
  | true =>
    rw [if_pos rfl, ← List.flatMap_def, ← flatMap_range_get m.table arrivalWords [0, 0, 0, 0, 0], h]
    refine List.flatMap_congr fun k _ => ?_
    cases m.table[k]? with
    | none => rfl
    | some a => exact arrivalWords_eq a

/-- The table of a route with its entries named (R138, R152). -/
def State.routeTable (s : State) (r : Route) : List (Nat × List Word) :=
  let x := s.routes[r]
  let st := s.steer[r]
  let m := s.mergers[r]
  [(1, [num x.chosen.mode.code]), (2, presence (x.chosen.active.map Fin.val)),
   (4, presence (x.chosen.secondary.map Fin.val)), (6, [num x.live.length]),
   (7, fourOf (fun k => entryOr x.live[k]? [0, 0] (fun c => [num c.path.val, flag c.standby]))),
   (15, [flag x.pending]), (16, [num x.preload.length]),
   (17, fourOf (fun k => entryOr x.preload[k]? [0] (fun p => [num p.val]))), (21, [num x.preloadInterval]),
   (22, [num x.interval, num x.countdown, num x.cursor]), (25, [num x.modeChanges]),
   (26, fourOf (fun k => entryOr x.live[k]? [0xFFFFFFFF] (fun c => metricRow (s.metricOf c.path)))),
   (30, [num st.openSlots.length]), (31, fourOf (fun k => entryOr st.openSlots[k]? [0, 0, 0, 0, 0, 0] openSlotRow)),
   (55, [num st.seq.toNat]), (56, [num st.commits, num st.darkDiscards, num st.abandoned, num st.mirrored]),
   (60, [num st.roleDiscards]), (61, [flag st.darkReported]), (62, [flag m.tracking]),
   (63, [if m.tracking then num m.newest.toNat else 0]), (64, [num m.staleRun]), (65, [num m.resyncCount]),
   (66, [num m.stale, num m.resyncs]), (68, [num m.repeats]),
   (69, (List.range 64).flatMap (fun k => arrivalRow m.tracking m.table[k]?))]

theorem routeRows_eq (s : State) (r : Route) : s.routeRows r = s.routeTable r := by
  unfold State.routeRows State.routeTable
  simp only [List.cons.injEq, Prod.mk.injEq, true_and, and_true]
  refine ⟨?mode, ?live, ?preload, ?metrics, ?slots, ?arrivals⟩
  case mode => cases s.routes[r].chosen.mode <;> rfl
  case live =>
    generalize s.routes[r].live = l
    rcases l with _ | ⟨a, _ | ⟨b, _ | ⟨c, _ | ⟨d, rest⟩⟩⟩⟩ <;> rfl
  case preload =>
    generalize s.routes[r].preload = l
    rcases l with _ | ⟨a, _ | ⟨b, _ | ⟨c, _ | ⟨d, rest⟩⟩⟩⟩ <;> rfl
  case metrics =>
    generalize s.routes[r].live = l
    rcases l with _ | ⟨a, _ | ⟨b, _ | ⟨c, _ | ⟨d, rest⟩⟩⟩⟩ <;> rfl
  case slots =>
    generalize s.steer[r].openSlots = l
    rcases l with _ | ⟨a, _ | ⟨b, _ | ⟨c, _ | ⟨d, rest⟩⟩⟩⟩ <;> rfl
  case arrivals =>
    refine List.flatMap_congr fun k _ => ?_
    cases s.mergers[r].tracking <;> cases s.mergers[r].table[k]? <;> rfl

theorem routeWords_eq {s : State} {r : Route} (h : s.mergers[r].table.length = 64) :
    s.routeWords r = (s.routeTable r).flatMap Prod.snd := by
  have hnewest : n64 (if s.mergers[r].tracking then s.mergers[r].newest.toNat else 0) =
      if s.mergers[r].tracking then num s.mergers[r].newest.toNat else 0 := by
    cases s.mergers[r].tracking <;> rfl
  have hslots : s.steer[r].openSlots.map openSlotWords = s.steer[r].openSlots.map openSlotRow :=
    List.map_congr_left fun o _ => openSlotWords_eq o
  unfold State.routeWords State.selectorWords steerWords mergerWords State.routeTable
  dsimp only
  rw [hnewest, hslots, arrivalTable_eq h, take_four, listWords_eq, listWords_eq, listWords_eq]
  simp only [List.flatMap_cons, List.flatMap_nil, List.append_assoc, List.cons_append, List.nil_append, List.append_nil,
    b64_eq, pair64_eq, metricRow_eq]
  rfl

theorem entryOr_length {α : Type} {o : Option α} {z : List Word} {g : α → List Word} {width : Nat} (hz : z.length = width)
    (hg : ∀ a, (g a).length = width) : (entryOr o z g).length = width := by
  cases o with
  | none => exact hz
  | some a => exact hg a

theorem liveRows_length (live : List Candidate) :
    (fourOf (fun k => entryOr live[k]? [0, 0] (fun c => [num c.path.val, flag c.standby]))).length = 8 :=
  fourOf_length (width := 2) fun _ => entryOr_length (width := 2) rfl fun _ => rfl

theorem preloadRows_length (preload : List Path) :
    (fourOf (fun k => entryOr preload[k]? [0] (fun p => [num p.val]))).length = 4 :=
  fourOf_length (width := 1) fun _ => entryOr_length (width := 1) rfl fun _ => rfl

theorem metricRows_length (s : State) (live : List Candidate) :
    (fourOf (fun k => entryOr live[k]? [0xFFFFFFFF] (fun c => metricRow (s.metricOf c.path)))).length = 4 :=
  fourOf_length fun _ => entryOr_length rfl fun _ => metricRow_length _

theorem slotRows_length (slots : List OpenSlot) :
    (fourOf (fun k => entryOr slots[k]? [0, 0, 0, 0, 0, 0] openSlotRow)).length = 24 :=
  fourOf_length fun _ => entryOr_length rfl openSlotRow_length

theorem routeTable_consecutive (s : State) (r : Route) : consecutive 1 (s.routeTable r) := by
  unfold State.routeTable
  dsimp only
  simp only [consecutive, List.length_cons, List.length_nil, presence_length, liveRows_length,
    preloadRows_length, metricRows_length, slotRows_length]
  simp

theorem routeWords_length {s : State} {r : Route} (h : s.mergers[r].table.length = 64) : (s.routeWords r).length = 388 := by
  have harrivals : ((List.range 64).flatMap (fun k => arrivalRow s.mergers[r].tracking s.mergers[r].table[k]?)).length =
      320 := by
    rw [List.length_flatMap]
    simp [arrivalRow_length]
  rw [routeWords_eq h]
  unfold State.routeTable
  simp only [List.flatMap_cons, List.flatMap_nil, List.length_append, List.length_cons, List.length_nil, presence_length,
    liveRows_length, preloadRows_length, metricRows_length, slotRows_length, harrivals]

end Sys2Proof.Machine

/-! ## The arbiter's turn

What an admission comes to by the requester of the offer, and the Command Unit's turn behind it (R36, R163, R164,
R172). -/

namespace Sys2Proof.Machine

/-! ### The Command Unit's turn -/

theorem cuOffered_writing {s : State} {c : Command} {x : Word} {xs : List Word} {offset : Nat}
    (ho : s.offers.any Offer.isCommandUnit = false) (hr : s.cu.refusal = none)
    (hw : s.cu.state = .executing c (.writing (x :: xs) offset)) :
    s.cuOffered =
      { s with
        offers := s.offers ++ [⟨.snapshotWord, [⟨s.pageBase + BitVec.ofNat 32 offset, [⟨x, 0xFF⟩], .commandUnit⟩]⟩]
        cu := { s.cu with state := .executing c (.writing xs (offset + 8)) } } := by
  unfold State.cuOffered
  rw [if_neg (by rw [ho]; exact Bool.false_ne_true), hr, hw]

theorem cuOffered_written {s : State} {c : Command} {offset : Nat} (ho : s.offers.any Offer.isCommandUnit = false)
    (hr : s.cu.refusal = none) (hw : s.cu.state = .executing c (.writing [] offset)) :
    s.cuOffered = s.answered c ⟨.done, 0, BitVec.ofNat 64 ((offset - 0x100) / 8)⟩ := by
  unfold State.cuOffered
  rw [if_neg (by rw [ho]; exact Bool.false_ne_true), hr, hw]

/-- A Command Unit with no refusal and nothing of its own left to present presents nothing. -/
theorem cuOffered_settled {s : State} (hr : s.cu.refusal = none) (hs : s.cu.state.settled = true) : s.cuOffered = s := by
  unfold State.cuOffered
  split
  · rfl
  · rw [hr]
    generalize s.cu.state = u at hs
    rcases u with _ | c | ⟨c, ⟨_ | ⟨x, xs⟩, offset⟩ | a | _ | _⟩
    case executing.writing.nil => exact absurd hs Bool.false_ne_true
    case executing.writing.cons => exact absurd hs Bool.false_ne_true
    case executing.answering => exact absurd hs Bool.false_ne_true
    all_goals rfl

/-! ### Admission -/

theorem exec_offerAdmit (s : State) : exec .offerAdmit s = .next (admitOldest s.quiet) := rfl

theorem fits_iff {s : State} {o : Offer} : s.fits o = true ↔ s.occupied + entriesOf o.writes ≤ 64 := decide_eq_true_iff

/-- The oldest offer waits while its entries are not free (R36). -/
theorem admitOldest_waits {s : State} {o : Offer} {os : List Offer} (h : s.offers = o :: os)
    (hfull : 64 < s.occupied + entriesOf o.writes) : admitOldest s = s := by
  unfold admitOldest
  rw [h]
  exact if_neg (mt fits_iff.1 (Nat.not_le.2 hfull))

/-- The oldest offer is admitted whole once its entries are free (R36). -/
theorem admitOldest_admits {s : State} {o : Offer} {os : List Offer} (h : s.offers = o :: os)
    (hfits : s.occupied + entriesOf o.writes ≤ 64) :
    admitOldest s = afterAdmission o { s with offers := os, queue := s.queue ++ o.writes } := by
  unfold admitOldest
  rw [h]
  exact if_pos (fits_iff.2 hfits)

theorem afterAdmission_snapshotWord (ws : List MemWrite) (s : State) :
    afterAdmission ⟨.snapshotWord, ws⟩ s = s.cuOffered := cuPresent_cuOffered s

theorem afterAdmission_result (ws : List MemWrite) (s : State) :
    afterAdmission ⟨.result, ws⟩ s = (s.setCu .idle).cuOffered := cuPresent_cuOffered _

/-! ### SNAPSHOT -/

/-- A command that takes effect over time begins its work in the state its arguments have returned to (R172, R173). -/
theorem beginWork_eq {s : State} {c : Command} (h : s.fetched c) {op : BitVec 8} (hop : c.opcode = op)
    (work : State → Work) : beginWork op work s.quiet = (s.working.setCu (.executing c (work s.working))).cuOffered := by
  unfold beginWork
  rw [argumentsFor_fetched s c h (· == op) (beq_iff_eq.2 hop)]
  exact cuPresent_cuOffered _

/-- The work of a SNAPSHOT in range: the object's words from page offset 0x100 (R172). -/
theorem snapshotWork_eq {s : State} {args : ArgWords} {ws : List Word}
    (h : argNat args 1 = 0 ∧ argNat args 2 = 0 ∧ ws = timeBaseWords s.tb ∨
      (∃ p : Fin 8, argNat args 1 = 1 ∧ argNat args 2 = p.val ∧ ws = s.pathWords p) ∨
      (∃ r : Fin 4, argNat args 1 = 2 ∧ argNat args 2 = r.val ∧ ws = s.routeWords r) ∨
      (∃ k : Fin 2, argNat args 1 = 3 ∧ argNat args 2 = k.val ∧ ws = s.ringWords k)) :
    s.snapshotWork args = .writing ws 0x100 := by
  unfold State.snapshotWork
  obtain ⟨h1, h2, rfl⟩ | ⟨p, h1, h2, rfl⟩ | ⟨r, h1, h2, rfl⟩ | ⟨k, h1, h2, rfl⟩ := h
  case inl =>
    rw [h1, h2]
    rfl
  case inr.inl =>
    have hbad : firstBad [(1, decide (3 < 1)), (2, decide (lastIndex 1 < p.val))] = none := by
      simp [firstBad, lastIndex]
      omega
    rw [h1, h2, hbad]
    exact congrArg (fun q => Work.writing (s.pathWords q) 0x100) (toPath_val p)
  case inr.inr.inl =>
    have hbad : firstBad [(1, decide (3 < 2)), (2, decide (lastIndex 2 < r.val))] = none := by
      simp [firstBad, lastIndex]
      omega
    rw [h1, h2, hbad]
    exact congrArg (fun q => Work.writing (s.routeWords q) 0x100) (toRoute_val r)
  case inr.inr.inr =>
    have hbad : firstBad [(1, decide (3 < 3)), (2, decide (lastIndex 3 < k.val))] = none := by
      simp [firstBad, lastIndex]
      omega
    rw [h1, h2, hbad]
    exact congrArg (fun q => Work.writing (s.ringWords q) 0x100) (toRing_val k)

theorem exec_snapshot_begins {s : State} {c : Command} {args : ArgWords} {x : Word} {xs : List Word} (h : s.fetched c)
    (hop : c.opcode = 0x11) (hw : s.working.snapshotWork args = .writing (x :: xs) 0x100) :
    exec (.snapshot args) s = .next
      { s.working with
        cu := { s.cu with state := .executing c (.writing xs 0x108) }
        offers := s.offers ++ [⟨.snapshotWord, [⟨s.pageBase + 0x100, [⟨x, 0xFF⟩], .commandUnit⟩]⟩] } := by
  have hbegin := beginWork_eq h hop (fun s => s.snapshotWork args)
  obtain ⟨-, hr, ho, -⟩ := h
  have hoffered := cuOffered_writing (s := s.working.setCu (.executing c (.writing (x :: xs) 0x100))) ho hr rfl
  rw [← hw] at hoffered
  exact congrArg Host.Outcome.next (hbegin.trans hoffered)

/-- The last word of a SNAPSHOT admitted, its result is presented (R172). -/
theorem exec_offerAdmit_lastWord {s : State} {c : Command} {ws : List MemWrite} {os : List Offer} {words : Nat}
    (ho : s.offers = ⟨.snapshotWord, ws⟩ :: os) (hnone : os.any Offer.isCommandUnit = false) (hr : s.cu.refusal = none)
    (hfits : s.occupied + entriesOf ws ≤ 64) (hw : s.cu.state = .executing c (.writing [] (0x100 + 8 * words))) :
    exec .offerAdmit s = .next
      (({ s with bus := [], offers := os, queue := s.queue ++ ws } : State).answered c ⟨.done, 0, BitVec.ofNat 64 words⟩) := by
  have hcount : (0x100 + 8 * words - 0x100) / 8 = words := by omega
  have hadmit := admitOldest_admits (s := s.quiet) ho hfits
  have hoffered := cuOffered_written (s := { s with bus := [], offers := os, queue := s.queue ++ ws }) hnone hr hw
  rw [hcount] at hoffered
  rw [exec_offerAdmit, hadmit, afterAdmission_snapshotWord]
  exact congrArg Host.Outcome.next hoffered

/-! ### RESTART -/

theorem exec_restart_drains {s : State} {c : Command} {args : ArgWords} (h : s.fetched c) (hop : c.opcode = 0x12)
    (hl : s.cu.lockLevel = 0) :
    exec (.restart args) s = .next { s.working with cu := { s.cu with state := .executing c .draining } } := by
  have hfree : ¬ 1 ≤ s.cu.lockLevel := by omega
  have hwork : s.working.restartWork = .draining := if_neg hfree
  have hbegin := beginWork_eq h hop State.restartWork
  rw [hwork, cuOffered_settled (s := s.working.setCu (.executing c .draining)) h.2.1 rfl] at hbegin
  exact congrArg Host.Outcome.next hbegin

theorem restartDue_of_drained {s : State} {c : Command} (hd : s.cu.state = .executing c .draining) (hq : s.queue = [])
    (ho : s.offers = []) (hr : s.reads = []) : s.restartDue = some c := by
  unfold State.restartDue
  rw [hd, hq, ho, hr]
  rfl

theorem restartDue_of_busy {s : State} {c : Command} (hd : s.cu.state = .executing c .draining)
    (h : s.queue ≠ [] ∨ s.offers ≠ [] ∨ s.reads ≠ []) : s.restartDue = none := by
  unfold State.restartDue
  rw [hd]
  refine if_neg fun hall => ?_
  simp only [Bool.and_eq_true, List.isEmpty_iff] at hall
  obtain ⟨⟨hq, ho⟩, hr⟩ := hall
  rcases h with h | h | h
  · exact h hq
  · exact h ho
  · exact h hr

/-- The reset of a RESTART, whose result is presented at once (R173). -/
theorem finishRestart_answered {s : State} {c : Command} (hd : s.restartDue = some c) (hw : s.portWaiting = [])
    (ho : s.offers = []) (hr : s.cu.refusal = none) :
    finishRestart s = ({ resetTables c s with cu := s.cu } : State).answered c ⟨.done, 0, 0⟩ := by
  have hpump : pumpPort (resetTables c s) = resetTables c s := by
    have hnone : (resetTables c s).portWaiting = [] := hw
    unfold pumpPort
    rw [hnone]
    exact setWaiting_nil _ hnone
  unfold finishRestart
  rw [hd]
  dsimp only
  rw [hpump, cuPresent_cuOffered]
  have hfree : ¬ ((resetTables c s).offers.any Offer.isCommandUnit = true) := by
    have hnone : (resetTables c s).offers = [] := ho
    rw [hnone]
    exact Bool.false_ne_true
  have hrefusal : (resetTables c s).cu.refusal = none := hr
  unfold State.cuOffered
  rw [if_neg hfree, hrefusal]
  rfl

theorem restartAgents_get (s : State) (tag i : Tag) :
    (s.restartAgents tag)[i] =
      if i = tag then s.agents[i] else if i = s.mgmtTag then ⟨.management, 0⟩ else ⟨.none, 0⟩ := by
  unfold State.restartAgents
  by_cases hi : i = tag
  · subst hi
    rw [if_pos rfl]
    exact Vector.getElem_set_self ..
  · rw [if_neg hi]
    exact (Vector.getElem_set_ne tag.isLt i.isLt fun h => hi (Fin.ext h.symm)).trans (powerOnAgents_get ..)

/-- Settles O60: the words of SNAPSHOT from start to result, the layouts of the records, and the drain and reset of
RESTART. -/
theorem snapshotAndRestartTakeTheirTime : Obligations.SnapshotAndRestartTakeTheirTime := by
  intro s c
  refine ⟨fun args x xs h hop hx => ?start, ⟨timeBaseWords_length _, ?timeBase⟩, fun p => ⟨pathWords_length s p, ?path⟩,
    fun r hr => ⟨routeWords_length hr, ?route⟩, fun k => ⟨ringWords_length s k, ?ring⟩,
    fun ws os words ho hnone hr hfits hw => ?last, fun args h hop hl => exec_restart_drains h hop hl,
    fun hd hq ho hr hw hn => ?reset, fun hd hbusy => ?drains⟩
  case start => exact exec_snapshot_begins h hop (snapshotWork_eq (s := s.working) hx)
  case timeBase => exact laidOut_of_consecutive (timeBaseRows_consecutive _) (timeBaseWords_eq _)
  case path => exact laidOut_of_consecutive (pathRows_consecutive s p) (pathWords_eq s p)
  case route =>
    rw [routeRows_eq]
    exact laidOut_of_consecutive (routeTable_consecutive s r) (routeWords_eq hr)
  case ring => exact laidOut_of_consecutive (ringRows_consecutive s k) (ringWords_eq s k)
  case last => exact exec_offerAdmit_lastWord ho hnone hr hfits hw
  case reset =>
    have hdue : s.quiet.restartDue = some c := restartDue_of_drained hd hq ho hr
    refine ⟨{ resetTables c s.quiet with cu := s.cu }, congrArg Host.Outcome.next (finishRestart_answered hdue hw ho hn),
      fun tag => restartAgents_get s.quiet c.agent tag, fun i => Vector.getElem_replicate .., rfl,
      fun r => Vector.getElem_replicate .., fun p => Vector.getElem_replicate ..,
      fun p => ⟨Vector.getElem_replicate .., Vector.getElem_replicate .., ?_⟩, rfl,
      fun r => ⟨Vector.getElem_replicate .., ?_⟩, fun k => Vector.getElem_replicate .., rfl, rfl, rfl⟩
    · exact (Vector.getElem_replicate p.isLt).trans (Vector.getElem_replicate p.isLt).symm
    · exact (Vector.getElem_replicate r.isLt).trans (Vector.getElem_replicate r.isLt).symm
  case drains =>
    have hdue : s.quiet.restartDue = none := restartDue_of_busy hd hbusy
    have hstay : finishRestart s.quiet = s.quiet := by
      unfold finishRestart
      rw [hdue]
    exact congrArg Host.Outcome.next hstay

end Sys2Proof.Machine

/-! ## What waits at the port

An acceptance neither looks at the requests that wait at the port nor moves them, so the port's turn depends on those it
is given alone (R1, R2). -/

namespace Sys2Proof.Machine

/-! ### Reports and routes -/

/-- What looks at nothing on the pins or at the port leaves the requests that wait there. -/
theorem setWaiting_of_withPort {f : State → State}
    (h : ∀ s bus qs, f (s.withPort bus qs) = (f s).withPort bus qs) (s : State) (qs : List PortRequest) :
    f (s.setWaiting qs) = (f s).setWaiting qs := by
  have hself : f s = (f s).withPort s.bus s.portWaiting := h s s.bus s.portWaiting
  have hbus : (f s).bus = s.bus := by rw [hself]; rfl
  calc
    f (s.setWaiting qs) = (f s).withPort s.bus qs := h s s.bus qs
    _ = (f s).setWaiting qs := by rw [← hbus]; rfl

theorem submit_setWaiting (rep : Report) (s : State) (qs : List PortRequest) :
    submit rep (s.setWaiting qs) = (submit rep s).setWaiting qs := setWaiting_of_withPort (submit_withPort rep) s qs

theorem reselection_setWaiting (s : State) (qs : List PortRequest) (rt : RouteRecord) (q : Path) (old new : Health) :
    (s.setWaiting qs).reselection rt q old new = s.reselection rt q old new := by
  have hbest : (s.setWaiting qs).best = s.best := best_congr rfl rfl
  have hup : (s.setWaiting qs).bestUp = s.bestUp := by
    unfold State.bestUp
    rw [hbest]
    rfl
  have hfull : (s.setWaiting qs).fullSelection = s.fullSelection := by
    unfold State.fullSelection
    rw [hup]
    rfl
  have hmirror : (s.setWaiting qs).mirrorOrSingle = s.mirrorOrSingle := by
    unfold State.mirrorOrSingle State.secondaryFor
    rw [hup]
  unfold State.reselection State.reselectSingle State.reselectMirror State.reselectFallback State.reselectDark
  rw [hfull, hmirror, hup]
  rfl

theorem choose_setWaiting (r : Route) (cause : RouteCause) (causing : Option Path) (new : Choice) (s : State)
    (qs : List PortRequest) : choose r cause causing new (s.setWaiting qs) = (choose r cause causing new s).setWaiting qs := by
  by_cases h : new = s.routes[r].chosen
  · rw [choose_unchanged h, choose_unchanged (s := s.setWaiting qs) h]
  · rw [choose_changed h, choose_changed (s := s.setWaiting qs) h]
    exact submit_setWaiting _ (s.setRouteRec r _) qs

theorem reselectRoute_setWaiting (q : Path) (old new : Health) (r : Route) (s : State) (qs : List PortRequest) :
    reselectRoute q old new r (s.setWaiting qs) = (reselectRoute q old new r s).setWaiting qs := by
  have hroutes : (s.setWaiting qs).routes = s.routes := rfl
  rw [reselectRoute_eq, reselectRoute_eq, hroutes, reselection_setWaiting]
  split
  · split
    · exact choose_setWaiting ..
    · rfl
  · rfl

theorem reselect_setWaiting (q : Path) (old new : Health) (s : State) (qs : List PortRequest) :
    reselect q old new (s.setWaiting qs) = (reselect q old new s).setWaiting qs := by
  simp only [reselect_eq, reselectRoute_setWaiting]

/-! ### Path health -/

theorem enterState_setWaiting (p : Path) (new : Health) (cause : PathCause) (s : State) (qs : List PortRequest) :
    enterState p new cause (s.setWaiting qs) = (enterState p new cause s).setWaiting qs :=
  (congrArg (reselect p s.paths[p].state new) (submit_setWaiting _ (s.setPathRec p _) qs)).trans (reselect_setWaiting ..)

theorem enterIf_setWaiting (p : Path) (change : Option (Health × PathCause)) (s : State) (qs : List PortRequest) :
    enterIf p change (s.setWaiting qs) = (enterIf p change s).setWaiting qs := by
  cases change with
  | none => rfl
  | some change => exact enterState_setWaiting ..

theorem takeStatusWord_setWaiting (p : Path) (w : Word) (s : State) (qs : List PortRequest) :
    takeStatusWord p w (s.setWaiting qs) = (takeStatusWord p w s).setWaiting qs := by
  unfold takeStatusWord
  dsimp only
  rw [apply_ite (fun t : State => t.setWaiting qs), ← enterIf_setWaiting]
  rfl

theorem snoopStatus_setWaiting (offset : Nat) (tag : Tag) (beats : List Beat) (s : State) (qs : List PortRequest) :
    snoopStatus offset tag beats (s.setWaiting qs) = (snoopStatus offset tag beats s).setWaiting qs := by
  have hsnooped : (s.setWaiting qs).snooped offset tag beats = s.snooped offset tag beats := rfl
  unfold snoopStatus
  rw [hsnooped]
  split
  · exact takeStatusWord_setWaiting ..
  · rfl

/-! ### Arrivals -/

theorem deliverReportBack_setWaiting (p : Path) (word3 : Option Word) (s : State) (qs : List PortRequest) :
    deliverReportBack p word3 (s.setWaiting qs) = (deliverReportBack p word3 s).setWaiting qs := by
  cases word3 with
  | none => rfl
  | some w => exact enterIf_setWaiting p _ ((s.setPathRec p _).setPathRec p _) qs

theorem deliverMonitor_setWaiting (c : ArrivalCommit) (s : State) (qs : List PortRequest) :
    deliverMonitor c (s.setWaiting qs) = (deliverMonitor c s).setWaiting qs :=
  congrArg (deliverSequence c.path (commitPathSeq c.commit))
    (deliverReportBack_setWaiting c.path c.word3 (deliverSample c.path c.word2 c.reading s) qs)

theorem deliverArrival_setWaiting (c : ArrivalCommit) (s : State) (qs : List PortRequest) :
    deliverArrival c (s.setWaiting qs) = (deliverArrival c s).setWaiting qs := by
  unfold deliverArrival deliverMerger
  dsimp only
  rw [apply_ite (fun t : State => t.setWaiting qs), ← submit_setWaiting]
  rfl

theorem deliverBoth_setWaiting (monitorFirst : Bool) (c : ArrivalCommit) (s : State) (qs : List PortRequest) :
    deliverBoth monitorFirst c (s.setWaiting qs) = (deliverBoth monitorFirst c s).setWaiting qs := by
  cases monitorFirst with
  | true => exact (congrArg (deliverArrival c) (deliverMonitor_setWaiting ..)).trans (deliverArrival_setWaiting ..)
  | false => exact (congrArg (deliverMonitor c) (deliverArrival_setWaiting ..)).trans (deliverMonitor_setWaiting ..)

theorem placeArrival_setWaiting (p : Path) (slot : Nat) (w2 w3 : Option Word) (s : State) (qs : List PortRequest) :
    placeArrival p slot w2 w3 (s.setWaiting qs) = (placeArrival p slot w2 w3 s).setWaiting qs :=
  setWaiting_of_withPort (placeArrival_withPort p slot w2 w3) s qs

theorem receiveCommit_setWaiting (monitorFirst : Bool) (win : Window) (offset : Nat) (tag : Tag) (beats : List Beat)
    (word : Word) (acks : Bool) (s : State) (qs : List PortRequest) :
    receiveCommit monitorFirst win offset tag beats word acks (s.setWaiting qs) =
      (receiveCommit monitorFirst win offset tag beats word acks s).setWaiting qs := by
  unfold receiveCommit
  dsimp only
  exact congrArg (offerWrites tag acks false _) (deliverBoth_setWaiting monitorFirst _ (s.setArrivals win.path _) qs)

theorem arrivalWrite_setWaiting (win : Window) (offset : Nat) (tag : Tag) (beats : List Beat) (acks : Bool) (s : State)
    (qs : List PortRequest) :
    arrivalWrite win offset tag beats acks (s.setWaiting qs) = (arrivalWrite win offset tag beats acks s).setWaiting qs := by
  have hslot : (s.setWaiting qs).slotOffset offset = s.slotOffset offset := rfl
  have hplaced : ∀ w2 w3, offerWrites tag acks false [(s.setWaiting qs).translated win offset tag beats]
        (placeArrival win.path ((s.setWaiting qs).slotOf offset) w2 w3 (s.setWaiting qs)) =
      (offerWrites tag acks false [s.translated win offset tag beats]
        (placeArrival win.path (s.slotOf offset) w2 w3 s)).setWaiting qs := fun w2 w3 =>
    congrArg (offerWrites tag acks false _) (placeArrival_setWaiting win.path (s.slotOf offset) w2 w3 s qs)
  unfold arrivalWrite
  dsimp only
  rw [hslot, hplaced]
  split
  · split
    · exact receiveCommit_setWaiting _ win offset tag beats _ acks { s with choice := s.choice + 1 } qs
    · rfl
  · rfl

/-! ### Writes of a route window -/

theorem ackIf_setWaiting (tag : Tag) (acks : Bool) (s : State) (qs : List PortRequest) :
    ackIf tag acks (s.setWaiting qs) = (ackIf tag acks s).setWaiting qs := by cases acks <;> rfl

theorem discardRole_setWaiting (w : RouteWrite) (s : State) (qs : List PortRequest) :
    discardRole w (s.setWaiting qs) = (discardRole w s).setWaiting qs :=
  (congrArg (ackIf w.tag w.acks) (submit_setWaiting _ (s.setSteer w.route _) qs)).trans (ackIf_setWaiting ..)

theorem darkDiscard_setWaiting (w : RouteWrite) (s : State) (qs : List PortRequest) :
    darkDiscard w (s.setWaiting qs) = (darkDiscard w s).setWaiting qs := by
  unfold darkDiscard
  dsimp only
  rw [← ackIf_setWaiting, apply_ite (fun t : State => t.setWaiting qs)]
  exact congrArg (ackIf w.tag w.acks) (if_congr Iff.rfl rfl (submit_setWaiting _ (s.setSteer w.route _) qs))

theorem targets_setWaiting (s : State) (r : Route) (qs : List PortRequest) :
    (s.setWaiting qs).targets r = ((s.targets r).1, (s.targets r).2.setWaiting qs) := by
  obtain ⟨rs, hrs⟩ := targets_routes s r
  have hmoved := targets_withPort s r s.bus qs
  rw [hrs] at hmoved ⊢
  exact hmoved

theorem openNew_setWaiting (r : Route) (slot : Nat) (b : Binding) (s : State) (qs : List PortRequest) :
    openNew r slot b (s.setWaiting qs) = (openNew r slot b s).setWaiting qs :=
  setWaiting_of_withPort (openNew_withPort r slot b) s qs

theorem commitFrame_setWaiting (w : RouteWrite) (word : Word) (b : Binding) (s : State) (qs : List PortRequest) :
    commitFrame w word b (s.setWaiting qs) = (commitFrame w word b s).setWaiting qs :=
  setWaiting_of_withPort (commitFrame_withPort w word b) s qs

theorem steerPayload_setWaiting (w : RouteWrite) (s : State) (qs : List PortRequest) :
    steerPayload w (s.setWaiting qs) = (steerPayload w s).setWaiting qs := by
  have hslot : (s.setWaiting qs).openSlot w.route ((s.setWaiting qs).slotOf w.offset) =
      s.openSlot w.route (s.slotOf w.offset) := rfl
  unfold steerPayload
  rw [hslot, targets_setWaiting]
  cases s.openSlot w.route (s.slotOf w.offset) with
  | some o => rfl
  | none =>
    obtain ⟨b, t⟩ := s.targets w.route
    cases b with
    | some b => exact congrArg (offerWrites w.tag w.acks false _) (openNew_setWaiting w.route _ b t qs)
    | none => exact darkDiscard_setWaiting w t qs

theorem steerCommit_setWaiting (w : RouteWrite) (word : Word) (s : State) (qs : List PortRequest) :
    steerCommit w word (s.setWaiting qs) = (steerCommit w word s).setWaiting qs := by
  have hslot : (s.setWaiting qs).openSlot w.route ((s.setWaiting qs).slotOf w.offset) =
      s.openSlot w.route (s.slotOf w.offset) := rfl
  unfold steerCommit
  rw [hslot, targets_setWaiting]
  cases s.openSlot w.route (s.slotOf w.offset) with
  | some o => exact commitFrame_setWaiting w word o.binding (closeSlot w.route (s.slotOf w.offset) s) qs
  | none =>
    obtain ⟨b, t⟩ := s.targets w.route
    cases b with
    | some b => exact commitFrame_setWaiting w word b t qs
    | none => exact darkDiscard_setWaiting w t qs

theorem steerWrite_setWaiting (w : RouteWrite) (s : State) (qs : List PortRequest) :
    steerWrite w (s.setWaiting qs) = (steerWrite w s).setWaiting qs := by
  have hslot : (s.setWaiting qs).slotOffset w.offset = s.slotOffset w.offset := rfl
  unfold steerWrite
  rw [hslot]
  split
  · rw [steerCommit_setWaiting, steerPayload_setWaiting, apply_ite (fun t : State => t.setWaiting qs)]
  · exact steerPayload_setWaiting ..

/-! ### Acceptance -/

theorem acceptWrite_setWaiting (w : WriteReq) (acks : Bool) (s : State) (qs : List PortRequest) :
    acceptWrite w acks (s.setWaiting qs) = (acceptWrite w acks s).setWaiting qs := by
  have hclass : (s.setWaiting qs).classify w.addr = s.classify w.addr := rfl
  have hagents : (s.setWaiting qs).agents = s.agents := rfl
  have hmodem : ∀ win : Window, (s.setWaiting qs).isModemOf w.tag win.path = s.isModemOf w.tag win.path := fun _ => rfl
  unfold acceptWrite
  rw [hclass, hagents]
  cases s.classify w.addr with
  | page k => rfl
  | through => rfl
  | window win offset =>
    dsimp only
    cases win.kind with
    | plain => rfl
    | pathTx => rfl
    | routeTx =>
      dsimp only
      rw [steerWrite_setWaiting, discardRole_setWaiting, apply_ite (fun t : State => t.setWaiting qs)]
    | pathRx =>
      dsimp only
      rw [hmodem, arrivalWrite_setWaiting, apply_ite (fun t : State => t.setWaiting qs)]
      rfl
    | status => exact congrArg (offerWrites w.tag acks false _) (snoopStatus_setWaiting ..)

theorem queueRead_setWaiting (m : MemRead) (drains : Nat) (s : State) (qs : List PortRequest) :
    queueRead m drains (s.setWaiting qs) = (queueRead m drains s).setWaiting qs := by
  unfold queueRead
  rw [apply_ite (fun t : State => t.setWaiting qs)]
  rfl

theorem issueLater_setWaiting (tag : Tag) (addr : Addr) (enables : List (BitVec 8)) (swap last : Bool)
    (d : Option Departure) (s : State) (qs : List PortRequest) :
    issueLater tag addr enables swap last d (s.setWaiting qs) = (issueLater tag addr enables swap last d s).setWaiting qs :=
  queueRead_setWaiting _ _ { s with nextRead := s.nextRead + 1, reads := _ } qs

theorem answerZeros_setWaiting (tag : Tag) (count : Nat) (swap last : Bool) (s : State) (qs : List PortRequest) :
    answerZeros tag count swap last (s.setWaiting qs) = (answerZeros tag count swap last s).setWaiting qs := by
  unfold answerZeros
  rw [deliverReads_eq, deliverReads_eq]
  rfl

theorem acceptRead_setWaiting (r : ReadReq) (last : Bool) (s : State) (qs : List PortRequest) :
    acceptRead r last (s.setWaiting qs) = (acceptRead r last s).setWaiting qs := by
  have hclass : (s.setWaiting qs).classify r.addr = s.classify r.addr := rfl
  unfold acceptRead
  rw [hclass]
  cases s.classify r.addr with
  | page k => exact issueLater_setWaiting ..
  | through => exact issueLater_setWaiting ..
  | window win offset =>
    dsimp only
    cases win.kind with
    | routeTx =>
      have hpath : (s.setWaiting qs).slotReadPath win.route ((s.setWaiting qs).slotOf offset) =
          s.slotReadPath win.route (s.slotOf offset) := rfl
      dsimp only
      rw [hpath]
      cases s.slotReadPath win.route (s.slotOf offset) with
      | some q => exact issueLater_setWaiting ..
      | none => exact answerZeros_setWaiting ..
    | pathTx => exact issueLater_setWaiting ..
    | pathRx => exact issueLater_setWaiting ..
    | status => exact issueLater_setWaiting ..
    | plain => exact issueLater_setWaiting ..

theorem accept_setWaiting (q : PortRequest) (s : State) (qs : List PortRequest) :
    accept q (s.setWaiting qs) = (accept q s).setWaiting qs := by
  cases q with
  | write w acks => exact acceptWrite_setWaiting ..
  | read r last => exact acceptRead_setWaiting ..

/-- The port takes the requests it is given, whatever waited at it before (R1, R2). -/
theorem pump_setWaiting (qs : List PortRequest) (s : State) (ws : List PortRequest) :
    pump qs (s.setWaiting ws) = pump qs s := by
  induction qs generalizing s with
  | nil => rfl
  | cons q qs ih =>
    have hopen : (s.setWaiting ws).portOpen = s.portOpen := rfl
    unfold pump
    rw [hopen, accept_setWaiting, ih]
    rfl

theorem presentWrite_eq (w : WriteReq) (s : State) : presentWrite w s = pump (s.portWaiting ++ splitWrite w) s :=
  pump_setWaiting ..

theorem presentRead_eq (r : ReadReq) (s : State) : presentRead r s = pump (s.portWaiting ++ splitRead r) s :=
  pump_setWaiting ..

end Sys2Proof.Machine

/-! ## The arbiter and the port

The admission of the oldest offer by its requester, the port's turn behind an agent's write, and what a request's row
does (R1, R2, R4, R36, R163). -/

namespace Sys2Proof.Machine

/-! ### The page watched -/

theorem onPageWord_none {off : Nat} {beats : List Beat} {k : Nat} (h : coveredWord off beats k = none)
    (f : Word → State → State) (s : State) : onPageWord off beats k f s = s := by
  unfold onPageWord
  rw [h]

/-- A write that covers none of the words the part watches (R162, R179, R181). -/
def State.unwatched (s : State) (w : MemWrite) : Prop :=
  ∀ k, k = 0 ∨ k = 17 ∨ k = 18 ∨ k = 19 → coveredWord (w.addr - s.pageBase).toNat w.beats k = none

theorem snoopPage_unwatched {s : State} {w : MemWrite} (h : s.unwatched w) (tag : Tag) : snoopPage tag w s = s := by
  unfold snoopPage
  dsimp only
  rw [onPageWord_none (h 0 (.inl rfl)), onPageWord_none (h 17 (.inr (.inl rfl))),
    onPageWord_none (h 18 (.inr (.inr (.inl rfl)))), onPageWord_none (h 19 (.inr (.inr (.inr rfl))))]

theorem snoopPages_unwatched {s : State} {ws : List MemWrite} (h : ∀ w ∈ ws, s.unwatched w) (tag : Tag) :
    ws.foldl (fun s w => snoopPage tag w s) s = s := by
  induction ws with
  | nil => rfl
  | cons w ws ih =>
    rw [List.foldl_cons, snoopPage_unwatched (h w List.mem_cons_self)]
    exact ih fun x hx => h x (List.mem_cons_of_mem w hx)

/-! ### Admissions -/

/-- An agent's write is acknowledged at its admission, and the port goes on (R2). -/
theorem afterAdmission_agent {s : State} {tag : Tag} {acks managed : Bool} {ws : List MemWrite}
    (h : managed = true → ∀ w ∈ ws, s.unwatched w) :
    afterAdmission ⟨.agent tag acks managed, ws⟩ s = (pump s.portWaiting (ackIf tag acks s)).cuOffered := by
  have hsnooped : (if managed then ws.foldl (fun s w => snoopPage tag w s) (ackIf tag acks s) else ackIf tag acks s) =
      ackIf tag acks s := by
    cases managed with
    | false => rfl
    | true =>
      refine snoopPages_unwatched (fun w hw k hk => ?_) tag
      have hnone := h rfl w hw k hk
      cases acks <;> exact hnone
  have hport : (ackIf tag acks s).portWaiting = s.portWaiting := by cases acks <;> rfl
  unfold afterAdmission
  dsimp only
  rw [hsnooped, cuPresent_cuOffered, pumpPort, hport]

/-- The admission of the refusal that was offered ends its record (R163). -/
theorem afterAdmission_refusal_offered {s : State} {r : RefusedCommand} (hr : s.cu.refusal = some r) (ho : r.offered = true)
    (ws : List MemWrite) :
    afterAdmission ⟨.refusal, ws⟩ s = ({ s with cu := { s.cu with refusal := none } } : State).cuOffered := by
  unfold afterAdmission
  dsimp only
  rw [hr, cuPresent_cuOffered]
  dsimp only
  rw [if_pos ho]

/-- A refusal that has replaced it since stays (log 14). -/
theorem afterAdmission_refusal_replaced {s : State}
    (h : s.cu.refusal = none ∨ ∃ r, s.cu.refusal = some r ∧ r.offered = false) (ws : List MemWrite) :
    afterAdmission ⟨.refusal, ws⟩ s = s.cuOffered := by
  unfold afterAdmission
  dsimp only
  rw [cuPresent_cuOffered]
  obtain h | ⟨r, h, ho⟩ := h
  · rw [h]
  · have hno : ¬ r.offered = true := by simp [ho]
    rw [h]
    dsimp only
    rw [if_neg hno]

/-! ### The port -/

theorem isRestarting_iff (u : CuState) : u.isRestarting = true ↔ ∃ c, u = .executing c .draining := by
  refine ⟨fun h => ?_, fun ⟨c, hc⟩ => by rw [hc]; rfl⟩
  unfold CuState.isRestarting at h
  split at h
  next c => exact ⟨c, rfl⟩
  all_goals exact absurd h Bool.false_ne_true

theorem isAgent_iff (o : Offer) : o.isAgent = true ↔ ∃ tag acks managed, o.source = .agent tag acks managed := by
  unfold Offer.isAgent
  cases o.source <;> simp

theorem portOpen_iff (s : State) :
    s.portOpen = true ↔
      (∀ o ∈ s.offers, ∀ tag acks managed, o.source ≠ .agent tag acks managed) ∧
        ∀ c, s.cu.state ≠ .executing c .draining := by
  have hagents : s.offers.any Offer.isAgent = false ↔
      ∀ o ∈ s.offers, ∀ tag acks managed, o.source ≠ .agent tag acks managed := by
    rw [List.any_eq_false]
    exact forall₂_congr fun o _ => by rw [isAgent_iff]; simp
  have hcu : s.cu.state.isRestarting = false ↔ ∀ c, s.cu.state ≠ .executing c .draining := by
    rw [← Bool.not_eq_true, isRestarting_iff]
    exact not_exists
  unfold State.portOpen
  rw [Bool.and_eq_true, Bool.not_eq_true', Bool.not_eq_true', hagents, hcu]

theorem splitWrite_aligned {w : WriteReq} (h : wordAligned w.addr = w.addr) :
    splitWrite w =
      if w.beats.length ≤ beatsBelowBoundary w.addr then [.write w true]
      else
        [.write ⟨w.tag, w.addr, w.beats.take (beatsBelowBoundary w.addr)⟩ false,
         .write ⟨w.tag, w.addr + BitVec.ofNat 32 (8 * beatsBelowBoundary w.addr), w.beats.drop (beatsBelowBoundary w.addr)⟩
          true] := by
  unfold splitWrite
  rw [h]

theorem splitRead_aligned {r : ReadReq} (h : wordAligned r.addr = r.addr) :
    splitRead r =
      if r.enables.length ≤ beatsBelowBoundary r.addr then [.read r true]
      else
        [.read ⟨r.tag, r.addr, r.enables.take (beatsBelowBoundary r.addr)⟩ false,
         .read ⟨r.tag, r.addr + BitVec.ofNat 32 (8 * beatsBelowBoundary r.addr),
          r.enables.drop (beatsBelowBoundary r.addr)⟩ true] := by
  unfold splitRead
  rw [h]

/-- Settles O38: an admission by its requester, and the port by the requests it is given. -/
theorem theOldestOfferIsAdmittedWhole : Obligations.TheOldestOfferIsAdmittedWhole := by
  refine ⟨fun s ⟨source, ws⟩ os h => ⟨fun hfull => ?waits, fun hfits => ?admitted⟩, fun s => ⟨portOpen_iff s, rfl,
    fun q qs => rfl, fun w hw => ?write, fun r hr => ?read⟩⟩
  case waits => exact congrArg Host.Outcome.next (admitOldest_waits (s := s.quiet) h hfull)
  case admitted =>
    intro admitted
    have hadmits : exec .offerAdmit s = .next (afterAdmission ⟨source, ws⟩ admitted) :=
      congrArg Host.Outcome.next (admitOldest_admits (s := s.quiet) h hfits)
    refine ⟨?_, fun tag acks managed hsource hwatched => ?_, fun hsource => ⟨fun r hr ho => ?_, fun hr => ?_⟩, ?_, ?_⟩
    · rintro rfl
      exact hadmits
    · subst hsource
      have hagent := afterAdmission_agent (s := admitted) (tag := tag) (acks := acks) hwatched
      have hacked : ackIf tag acks admitted = { admitted with bus := if acks then [.ack tag] else [] } := by
        cases acks <;> rfl
      rw [hacked] at hagent
      exact hadmits.trans (congrArg Host.Outcome.next hagent)
    · subst hsource
      exact hadmits.trans (congrArg Host.Outcome.next (afterAdmission_refusal_offered (s := admitted) hr ho ws))
    · subst hsource
      exact hadmits.trans (congrArg Host.Outcome.next (afterAdmission_refusal_replaced (s := admitted) hr ws))
    · rintro rfl
      exact hadmits.trans (congrArg Host.Outcome.next (afterAdmission_snapshotWord ws admitted))
    · rintro rfl
      exact hadmits.trans (congrArg Host.Outcome.next (afterAdmission_result ws admitted))
  case write =>
    intro n
    rw [← splitWrite_aligned hw]
    exact congrArg Host.Outcome.next (presentWrite_eq w s.quiet)
  case read =>
    intro n
    rw [← splitRead_aligned hr]
    exact congrArg Host.Outcome.next (presentRead_eq r s.quiet)

end Sys2Proof.Machine

/-! ## The control page

The writes of a MANAGEMENT agent that the part watches: commands, acknowledges and consumer indexes (R162, R163, R179,
R181). -/

namespace Sys2Proof.Machine

/-! ### The words a write covers -/

theorem coveredWord_below {off k : Nat} (h : k < off / 8) (beats : List Beat) : coveredWord off beats k = none := by
  have hno : beatOfWord off beats k = none := if_neg (Nat.not_le.2 h)
  unfold coveredWord
  rw [hno]

theorem coveredWord_beyond {off k : Nat} {beats : List Beat} (h : off / 8 + beats.length ≤ k) :
    coveredWord off beats k = none := by
  have hno : beatOfWord off beats k = none :=
    (if_pos (by omega)).trans (List.getElem?_eq_none (by omega))
  unfold coveredWord
  rw [hno]

theorem onPageWord_some {off : Nat} {beats : List Beat} {k : Nat} {w : Word} (h : coveredWord off beats k = some w)
    (f : Word → State → State) (s : State) : onPageWord off beats k f s = f w s := by
  unfold onPageWord
  rw [h]

/-! ### A page write and its admission -/

theorem page_offset {base : Addr} {offset : Nat} (h : offset < 4096) : (base + BitVec.ofNat 32 offset - base).toNat = offset := by
  rw [BitVec.add_comm, BitVec.add_sub_cancel, BitVec.toNat_ofNat]
  omega

theorem classify_of_pageWrite {s : State} {w : WriteReq} {offset : Nat} (ho : offset < 4096)
    (ha : w.addr = s.pageBase + BitVec.ofNat 32 offset) : s.classify w.addr = .page offset := by
  have hbase := pageBase_toNat s
  have hctl := s.ctlBase.isLt
  have hsum : w.addr.toNat = s.ctlBase.toNat * 16777216 + offset := by
    rw [ha, BitVec.toNat_add, BitVec.toNat_ofNat, hbase]
    omega
  rw [classify_of_page ⟨by omega, by omega⟩, hsum, Nat.add_sub_cancel_left]

theorem onPageWord_portWaiting {f : Word → State → State} (hf : ∀ w s, (f w s).portWaiting = s.portWaiting) (off : Nat)
    (beats : List Beat) (k : Nat) (s : State) : (onPageWord off beats k f s).portWaiting = s.portWaiting := by
  unfold onPageWord
  split
  · exact hf ..
  · rfl

theorem takeCommand_portWaiting (w : Word) (tag : Tag) (s : State) : (takeCommand w tag s).portWaiting = s.portWaiting := by
  unfold takeCommand queueRead
  cases s.cu.state with
  | idle => cases s.queue <;> rfl
  | fetching c => rfl
  | executing c work => rfl

theorem snoopPage_portWaiting (tag : Tag) (w : MemWrite) (s : State) : (snoopPage tag w s).portWaiting = s.portWaiting := by
  have hconsumer : ∀ k v s, (takeConsumer k v s).portWaiting = s.portWaiting := fun k v s =>
    (takeConsumer_only k v s).portWaiting
  have hacknowledge : ∀ v s, (takeAcknowledge v s).portWaiting = s.portWaiting := fun v s =>
    (takeAcknowledge_only v s).portWaiting
  unfold snoopPage
  dsimp only
  rw [onPageWord_portWaiting (hconsumer 1), onPageWord_portWaiting (hconsumer 0), onPageWord_portWaiting hacknowledge,
    onPageWord_portWaiting fun v s => takeCommand_portWaiting v tag s]

/-- A MANAGEMENT agent's write admitted with nothing behind it at the port (R36, R162). -/
theorem afterAdmission_managed {s : State} (h : s.portWaiting = []) (tag : Tag) (w : MemWrite) :
    afterAdmission ⟨.agent tag true true, [w]⟩ s = (snoopPage tag w (emit (.ack tag) s)).cuOffered := by
  have hpump : pumpPort (snoopPage tag w (emit (.ack tag) s)) = snoopPage tag w (emit (.ack tag) s) := by
    have hnone : (snoopPage tag w (emit (.ack tag) s)).portWaiting = [] :=
      (snoopPage_portWaiting tag w (emit (.ack tag) s)).trans h
    unfold pumpPort
    rw [hnone]
    exact setWaiting_nil _ hnone
  exact (cuPresent_cuOffered _).trans (congrArg State.cuOffered hpump)

/-- The state in which the words of a page write are watched: it is in the queue and acknowledged. -/
def State.pageAdmitted (s : State) (w : WriteReq) : State :=
  { s with bus := [.ack w.tag], queue := s.queue ++ [⟨w.addr, w.beats, .agent w.tag⟩] }

theorem pageWrite_offers {s : State} {w : WriteReq} {offset : Nat} (h : s.pageWrite w offset) : s.offers = [] := by
  obtain ⟨-, hoffers, -⟩ := h
  exact hoffers

theorem pageWrite_addr {s : State} {w : WriteReq} {offset : Nat} (h : s.pageWrite w offset) :
    w.addr = s.pageBase + BitVec.ofNat 32 offset := by
  obtain ⟨-, -, -, -, haddr, -⟩ := h
  exact haddr

theorem pageWrite_offset {s : State} {w : WriteReq} {offset : Nat} (h : s.pageWrite w offset) :
    (w.addr - s.pageBase).toNat = offset := by
  obtain ⟨-, -, -, hlow, haddr, -⟩ := h
  rw [haddr]
  exact page_offset hlow

/-- A page write with nothing ahead of it is presented and admitted in one step (log 4). -/
theorem presentAndAdmit_pageWrite {s : State} {w : WriteReq} {offset : Nat} (h : s.pageWrite w offset) :
    presentAndAdmit w s.quiet = (snoopPage w.tag ⟨w.addr, w.beats, .agent w.tag⟩ (s.pageAdmitted w)).cuOffered := by
  obtain ⟨hfree, hoffers, hrole, ho, ha, hblock, hfits⟩ := h
  have haccept : acceptWrite w true (s.quiet.setWaiting [.write w true]) =
      offerWrites w.tag true true [⟨w.addr, w.beats, .agent w.tag⟩] (s.quiet.setWaiting [.write w true]) := by
    rw [acceptWrite_page true (s := s.quiet.setWaiting [.write w true]) (classify_of_pageWrite ho ha)]
    exact congrArg (fun m => offerWrites w.tag true m _ _) (beq_iff_eq.2 hrole)
  have hpresent := presentWrite_offered hfree hblock haccept
  have hone : (s.offered w.tag true [⟨w.addr, w.beats, .agent w.tag⟩]).offers =
      [⟨.agent w.tag true true, [⟨w.addr, w.beats, .agent w.tag⟩]⟩] :=
    congrArg (· ++ [agentOffer w.tag true [⟨w.addr, w.beats, .agent w.tag⟩]]) hoffers
  have hadmit := admitOldest_admits hone hfits
  have hguard : s.quiet.portOpen = true ∧ s.quiet.offers = [] ∧ s.quiet.portWaiting = [] := ⟨hfree.1, hoffers, hfree.2⟩
  unfold presentAndAdmit
  dsimp only
  rw [if_pos hguard, hpresent, splitWrite_whole w hblock, List.foldl_cons, List.foldl_nil, hadmit,
    afterAdmission_managed (s := { s.offered w.tag true [⟨w.addr, w.beats, .agent w.tag⟩] with offers := [], queue := _ })
      hfree.2, ← hoffers]
  rfl

theorem exec_busyRefusal (w : WriteReq) (s : State) : exec (.busyRefusal w) s = .next (presentAndAdmit w s.quiet) := rfl

/-! ### Commands -/

/-- A write of the command word watched: the rest of the watched words lie beyond its beats (R162). -/
theorem snoopPage_command {s : State} {w : MemWrite} {word : Word} (ha : w.addr = s.pageBase)
    (hword : coveredWord 0 w.beats 0 = some word) (hlen : w.beats.length ≤ 8) (tag : Tag) :
    snoopPage tag w s = takeCommand word tag s := by
  have hoff : (w.addr - s.pageBase).toNat = 0 := by
    rw [ha, BitVec.sub_self]
    rfl
  have hnone : ∀ k, 8 ≤ k → coveredWord 0 w.beats k = none := fun k hk => coveredWord_beyond (by omega)
  unfold snoopPage
  dsimp only
  rw [hoff, onPageWord_none (hnone 19 (by decide)), onPageWord_none (hnone 18 (by decide)),
    onPageWord_none (hnone 17 (by decide)), onPageWord_some hword]

/-- An IDLE Command Unit fetches the arguments behind every write queued (R162). -/
theorem takeCommand_idle {s : State} (hi : s.cu.state = .idle) {q : List MemWrite} {x : MemWrite} (hq : s.queue = q ++ [x])
    (w : Word) (tag : Tag) :
    takeCommand w tag s =
      { s with
        readWait := s.readWait ++ [(⟨.argument, s.pageBase + 8, List.replicate 7 0xFF⟩, q.length + 1)]
        cu := { s.cu with state := .fetching ⟨w.extractLsb' 0 8, w.extractLsb' 8 8, tag⟩ } } := by
  have hlength : s.queue.length = q.length + 1 := by rw [hq, List.length_append, List.length_singleton]
  unfold takeCommand
  rw [hi, hlength]
  exact if_neg (Nat.succ_ne_zero _)

/-- A busy one refuses the command (R163). -/
theorem takeCommand_busy {s : State} (hi : s.cu.state ≠ .idle) (w : Word) (tag : Tag) :
    takeCommand w tag s = { s with cu := { s.cu with refusal := some ⟨w.extractLsb' 0 8, w.extractLsb' 8 8, false⟩ } } := by
  unfold takeCommand
  split
  next h => exact absurd h hi
  next => rfl
  next => rfl

theorem cuOffered_refusal {s : State} {r : RefusedCommand} (ho : s.offers = []) (hr : s.cu.refusal = some r) :
    s.cuOffered =
      { s with
        offers :=
          [⟨.refusal, [⟨s.pageBase + 0x40, [⟨resultWord r.label r.opcode .busy 0, 0xFF⟩], .commandUnit⟩,
            ⟨s.pageBase + 0x48, [⟨0, 0xFF⟩], .commandUnit⟩]⟩]
        cu := { s.cu with refusal := some ⟨r.opcode, r.label, true⟩ } } := by
  unfold State.cuOffered
  rw [ho, hr]
  rfl

/-- Settles O39: a command taken by an IDLE Command Unit at its admission, and refused by any other. -/
theorem commandsAreTakenOrRefusedBusy : Obligations.CommandsAreTakenOrRefusedBusy := by
  intro s w word hword hlen written opcode label
  refine ⟨fun ho hfits hwait hr hi => ?taken, fun hpage hbusy => ?refused⟩
  case taken =>
    let admitted : State := { s.quiet with offers := [], queue := s.queue ++ [written] }
    have hadmit : admitOldest s.quiet = afterAdmission ⟨.agent w.tag true true, [written]⟩ admitted :=
      admitOldest_admits (s := s.quiet) ho hfits
    have hsnoop : snoopPage w.tag written (emit (.ack w.tag) admitted) = takeCommand word w.tag (emit (.ack w.tag) admitted) :=
      snoopPage_command rfl hword hlen w.tag
    rw [exec_offerAdmit, hadmit, afterAdmission_managed (s := admitted) hwait, hsnoop,
      takeCommand_idle (s := emit (.ack w.tag) admitted) hi (q := s.queue) (x := written) rfl]
    exact congrArg Host.Outcome.next (cuOffered_settled hr rfl)
  case refused =>
    have haddr : w.addr = s.pageBase := (pageWrite_addr hpage).trans (BitVec.add_zero _)
    have hsnoop : snoopPage w.tag ⟨w.addr, w.beats, .agent w.tag⟩ (s.pageAdmitted w) =
        takeCommand word w.tag (s.pageAdmitted w) := snoopPage_command haddr hword hlen w.tag
    have hadmitted : s.pageAdmitted w = { s with bus := [.ack w.tag], queue := s.queue ++ [written] } := by
      unfold State.pageAdmitted
      rw [haddr]
    rw [exec_busyRefusal, presentAndAdmit_pageWrite hpage, hsnoop, takeCommand_busy (s := s.pageAdmitted w) hbusy, hadmitted]
    exact congrArg Host.Outcome.next (cuOffered_refusal (r := ⟨opcode, label, false⟩)
      (s := { s with
        bus := [.ack w.tag], queue := s.queue ++ [written], cu := { s.cu with refusal := some ⟨opcode, label, false⟩ } })
      (pageWrite_offers (s := s) hpage) rfl)

end Sys2Proof.Machine

/-! ## Acknowledges and consumer indexes

What the Report Writer takes of a page write at its admission (R179, R180, R181). -/

namespace Sys2Proof.Machine

/-! ### Acknowledges -/

/-- A ring whose pending flag an acknowledge bit clears, or leaves (R181). -/
def Ring.acked (x : Ring) (b : Bool) : Ring := { x with pending := x.pending && !b }

theorem Ring.acked_false (x : Ring) : x.acked false = x := by
  unfold Ring.acked
  rw [Bool.not_false, Bool.and_true]

theorem Ring.acked_idle {x : Ring} (h : x.pending = false) (b : Bool) : x.acked b = x := by
  unfold Ring.acked
  rw [h, Bool.false_and, ← h]

/-- The write list after a change of a pending flag, or none: a status word joins it unless one waits (R180). -/
def statusListed (changed : Bool) (l : List ListItem) : List ListItem :=
  if changed && !l.any ListItem.isStatus then l ++ [.status] else l

/-- Two changes list one status word. -/
theorem statusListed_twice (b c : Bool) (l : List ListItem) :
    statusListed c (statusListed b l) = statusListed (b || c) l := by
  unfold statusListed
  cases b <;> cases c <;> cases h : l.any ListItem.isStatus <;> simp [h, ListItem.isStatus]

/-- A pending flag cleared by an acknowledge bit, or left without one (R181). -/
theorem clearPendingIf_eq (k : RingId) (b : Bool) (s : State) :
    (if b then clearPending k s else s) =
      { s with
        rings := s.rings.set k (s.rings[k].acked b)
        writeList := statusListed (s.rings[k].pending && b) s.writeList } := by
  have hself : ∀ x : Ring, x = s.rings[k] → s.rings.set k x = s.rings := by
    rintro _ rfl
    exact Vector.set_getElem_self k.isLt
  cases b with
  | false =>
    rw [hself _ (Ring.acked_false _), Bool.and_false]
    rfl
  | true =>
    unfold clearPending listStatus statusListed
    cases hp : s.rings[k].pending with
    | false =>
      rw [hself _ (Ring.acked_idle hp true)]
      rfl
    | true =>
      have hacked : s.rings[k].acked true = { s.rings[k] with pending := false } := by
        unfold Ring.acked
        rw [Bool.not_true, Bool.and_false]
      have hlist : (s.setRing k { s.rings[k] with pending := false }).writeList = s.writeList := rfl
      rw [if_pos rfl, if_pos rfl, hacked, hlist]
      cases s.writeList.any ListItem.isStatus <;> rfl

/-- The acknowledge bit of a ring, in a write that may not cover the acknowledge word (R181). -/
def ackBit (v : Option Word) (k : RingId) : Bool :=
  match v with
  | some a => a.getLsbD k.val
  | none => false

/-- The state after the acknowledge bits of both rings (R181). -/
def State.acknowledged (s : State) (v : Option Word) : State :=
  { s with
    rings := (s.rings.set 0 (s.rings[(0 : Fin 2)].acked (ackBit v 0))).set 1 (s.rings[(1 : Fin 2)].acked (ackBit v 1))
    writeList :=
      statusListed (s.rings[(0 : Fin 2)].pending && ackBit v 0 || s.rings[(1 : Fin 2)].pending && ackBit v 1) s.writeList }

theorem acknowledged_none (s : State) : s.acknowledged none = s := by
  unfold State.acknowledged ackBit
  rw [Ring.acked_false, Ring.acked_false, Bool.and_false, Bool.and_false]
  have hfirst : s.rings.set 0 s.rings[(0 : Fin 2)] = s.rings := Vector.set_getElem_self (by decide)
  have hsecond : s.rings.set 1 s.rings[(1 : Fin 2)] = s.rings := Vector.set_getElem_self (by decide)
  rw [hfirst, hsecond]
  rfl

theorem onPageWord_acknowledge (off : Nat) (beats : List Beat) (s : State) :
    onPageWord off beats 17 takeAcknowledge s = s.acknowledged (coveredWord off beats 17) := by
  unfold onPageWord
  cases coveredWord off beats 17 with
  | none => exact (acknowledged_none s).symm
  | some a =>
    have hother : ∀ x : Ring, (s.rings.set (0 : RingId) x (0 : RingId).isLt)[(1 : RingId)] = s.rings[(1 : RingId)] := fun x =>
      Vector.getElem_set_ne (by decide) (by decide) (by decide)
    dsimp only
    unfold takeAcknowledge
    dsimp only
    rw [clearPendingIf_eq 0, clearPendingIf_eq 1]
    dsimp only
    rw [statusListed_twice, hother]
    rfl

/-! ### Consumer indexes -/

/-- A ring with the consumer index a write gives it, if any: one below the group count is taken, and a full ring moves on
at once when its next group is released (R179). -/
def Ring.consumed (x : Ring) (v : Option Word) : Ring :=
  match v with
  | none => x
  | some v =>
    let c := (v.extractLsb' 0 4).toNat
    if x.groups ≤ c then x
    else if x.position = x.perGroup ∧ (x.group + 1) % x.groups ≠ c then
      { x with consumer := c, group := (x.group + 1) % x.groups, position := 0 }
    else { x with consumer := c }

theorem takeConsumer_eq (k : RingId) (w : Word) (s : State) :
    takeConsumer k w s = s.setRing k (s.rings[k].consumed (some w)) := by
  unfold takeConsumer Ring.consumed
  dsimp only
  by_cases h : s.rings[k].groups ≤ field w 0 4
  · have hself : s.setRing k s.rings[k] = s := by
      unfold State.setRing
      have hsame : s.rings.set k s.rings[k] = s.rings := Vector.set_getElem_self k.isLt
      rw [hsame]
    rw [if_neg (Nat.not_lt.2 h)]
    exact hself.symm.trans (congrArg (s.setRing k) (if_pos h).symm)
  · rw [if_pos (Nat.not_le.1 h)]
    exact congrArg (s.setRing k) (if_neg h).symm

theorem onPageWord_consumer (off : Nat) (beats : List Beat) (n : Nat) (k : RingId) (s : State) :
    onPageWord off beats n (takeConsumer k) s = s.setRing k (s.rings[k].consumed (coveredWord off beats n)) := by
  unfold onPageWord
  cases coveredWord off beats n with
  | none =>
    have hsame : s.rings.set k s.rings[k] = s.rings := Vector.set_getElem_self k.isLt
    unfold State.setRing Ring.consumed
    dsimp only
    rw [hsame]
  | some w => exact takeConsumer_eq k w s

/-! ### Both -/

/-- The state after the words of a page write that the Report Writer watches (R179, R181). -/
def State.reportPageTaken (s : State) (offset : Nat) (beats : List Beat) : State :=
  let acknowledged := s.acknowledged (coveredWord offset beats 17)
  let first := acknowledged.setRing 0 (acknowledged.rings[(0 : Fin 2)].consumed (coveredWord offset beats 18))
  first.setRing 1 (first.rings[(1 : Fin 2)].consumed (coveredWord offset beats 19))

/-- A write behind the command word is watched for the Report Writer alone. -/
theorem snoopPage_report {s : State} {w : MemWrite} {offset : Nat} (ho : (w.addr - s.pageBase).toNat = offset)
    (hlow : 0x80 ≤ offset) (tag : Tag) : snoopPage tag w s = s.reportPageTaken offset w.beats := by
  have hnone : coveredWord offset w.beats 0 = none := coveredWord_below (by omega) _
  unfold snoopPage
  dsimp only
  rw [ho, onPageWord_none hnone, onPageWord_acknowledge, onPageWord_consumer, onPageWord_consumer]
  rfl

theorem reportPageTaken_ring_zero (s : State) (offset : Nat) (beats : List Beat) :
    (s.reportPageTaken offset beats).rings[(0 : Fin 2)] =
      (s.rings[(0 : Fin 2)].acked (ackBit (coveredWord offset beats 17) 0)).consumed (coveredWord offset beats 18) := by
  have hfirst : (s.acknowledged (coveredWord offset beats 17)).rings[(0 : Fin 2)] =
      s.rings[(0 : Fin 2)].acked (ackBit (coveredWord offset beats 17) 0) :=
    (Vector.getElem_set_ne (by decide) (by decide) (by decide)).trans (Vector.getElem_set_self (by decide))
  rw [← hfirst]
  exact (Vector.getElem_set_ne (by decide) (by decide) (by decide)).trans (Vector.getElem_set_self (by decide))

theorem reportPageTaken_ring_one (s : State) (offset : Nat) (beats : List Beat) :
    (s.reportPageTaken offset beats).rings[(1 : Fin 2)] =
      (s.rings[(1 : Fin 2)].acked (ackBit (coveredWord offset beats 17) 1)).consumed (coveredWord offset beats 19) := by
  have hsecond : ∀ x : Ring, ((s.acknowledged (coveredWord offset beats 17)).setRing 0 x).rings[(1 : Fin 2)] =
      s.rings[(1 : Fin 2)].acked (ackBit (coveredWord offset beats 17) 1) := fun x =>
    (Vector.getElem_set_ne (by decide) (by decide) (by decide)).trans (Vector.getElem_set_self (by decide))
  refine (Vector.getElem_set_self (by decide)).trans ?_
  exact congrArg (Ring.consumed · (coveredWord offset beats 19)) (hsecond _)

/-- Settles O40: a page write with its acknowledge bits and consumer indexes, ring by ring. -/
theorem acknowledgesAndConsumerIndexesAreTaken : Obligations.AcknowledgesAndConsumerIndexesAreTaken := by
  intro s w offset hpage hlow _ hr hsettled ack cleared
  have hoffset : (w.addr - s.pageBase).toNat = offset := pageWrite_offset hpage
  have hsnoop := snoopPage_report (s := s.pageAdmitted w) (w := ⟨w.addr, w.beats, .agent w.tag⟩) hoffset hlow w.tag
  have hexec := presentAndAdmit_pageWrite hpage
  rw [hsnoop, cuOffered_settled (s := (s.pageAdmitted w).reportPageTaken offset w.beats) hr hsettled] at hexec
  have hbit : ∀ k : Fin 2, cleared k = (s.rings[k].pending && ackBit ack k) := fun k => by
    cases hack : coveredWord offset w.beats 17 <;> simp [cleared, ack, hack, ackBit]
  have hacked : ∀ k : Fin 2, s.rings[k].acked (ackBit ack k) =
      { s.rings[k] with pending := s.rings[k].pending && !cleared k } := fun k => by
    unfold Ring.acked
    rw [hbit]
    cases s.rings[k].pending <;> rfl
  refine ⟨(s.pageAdmitted w).reportPageTaken offset w.beats, congrArg Host.Outcome.next hexec, congrArg Host.Outcome.next hexec,
    Fin.forall_fin_two.2 ⟨?zero, ?one⟩, ?list, rfl⟩
  case zero =>
    intro x
    rw [reportPageTaken_ring_zero]
    have hx : (s.pageAdmitted w).rings[(0 : Fin 2)].acked (ackBit (coveredWord offset w.beats 17) 0) = x := hacked 0
    rw [hx, if_pos rfl]
    cases coveredWord offset w.beats 18 <;> rfl
  case one =>
    intro x
    rw [reportPageTaken_ring_one]
    have hx : (s.pageAdmitted w).rings[(1 : Fin 2)].acked (ackBit (coveredWord offset w.beats 17) 1) = x := hacked 1
    rw [hx, if_neg (by decide)]
    cases coveredWord offset w.beats 19 <;> rfl
  case list =>
    rw [hbit, hbit]
    rfl

end Sys2Proof.Machine
